-- ==== Sys2Proof/Word.lean ====
section
/-! DEFINITION. The word types of the EJN-22: bytes on the span bus and in the image, 16-bit values, 32-bit
stamps, station numbers and flag sets. -/

namespace Sys2Proof

/-- One byte on the span bus, in the image or in the rate word. -/
abbrev Byte := BitVec 8

/-- A 16-bit field or value. -/
abbrev Half := BitVec 16

/-- A span time or stamp: a 32-bit count of microseconds that wraps (R21). -/
abbrev Stamp := BitVec 32

/-- A set of stations, bit s for station s (R168, R178). -/
abbrev StationMask := BitVec 32

/-- A station number, 0–31 (R3). -/
abbrev Station := BitVec 5

/-- The fourteen flag positions, bit by bit in the order of section 13.3. -/
abbrev FlagSet := BitVec 14

end Sys2Proof
end

