-- ==== Sys2Proof/Config.lean ====
section
/-! DEFINITION. What the part itself fixes: sizes, limits and codes that the manual gives as constants. The manual
leaves no value open that a command's effect needs, so there is no free value here (log entry 2). -/

namespace Sys2Proof.Config

/-- The largest value of a 16-bit saturating count (R16, R27, R32, R40, R70, R84, R190). -/
abbrev count16 : Nat := 65535

/-- The largest value of an 8-bit saturating count (R127, R179, R190, R47). -/
abbrev count8 : Nat := 255

/-- The noise bucket when full (R40). -/
abbrev bucketFull : Nat := 16

/-- Ticks from one leak of the bucket to the next (R41). -/
abbrev leakTicks : Nat := 4

/-- The lock window in ticks (R29). -/
abbrev lockWindow : Nat := 16

/-- The line allowance in µs, the length of the preamble (R2). -/
abbrev lineAllowance : Nat := 2

/-- Header and check bytes of a frame; also its µs after the preamble, less the payload (R2, R23). -/
abbrev frameOverhead : Nat := 10

/-- The most payload bytes of a frame (R2, R13). -/
abbrev maxPayload : Nat := 64

/-- Slots of a wheel pass (R5). -/
abbrev wheelSlots : Nat := 96

/-- Consecutive collisions that end in BACKOFF (R17). -/
abbrev collisionLimit : Nat := 4

/-- Quiet wheel passes that end BACKOFF (R18). -/
abbrev backoffPasses : Nat := 2

/-- Samples in a full ring (R83). -/
abbrev ringSize : Nat := 8

/-- The purge age in µs (R85). -/
abbrev purgeAge : Nat := 2 ^ 20

/-- Failures in a row that raise SENSOR (R127). -/
abbrev failureRunLimit : Nat := 3

/-- The checker's quiet timer at its limit, in ticks (R189). -/
abbrev testQuietLimit : Nat := 32

/-- Bytes of the test block (R4). -/
abbrev testBlockBytes : Nat := 37

/-- The largest test index (R181). -/
abbrev maxTestIndex : Nat := 65535

/-- Bytes of the configuration image (R194). -/
abbrev imageBytes : Nat := 256

/-- Retries after the first I2C attempt (R195). -/
abbrev maxRetries : Nat := 3

/-- Clocks that step 1 of an attempt may give to free CFG_SDA (R194). -/
abbrev freeingClocks : Nat := 9

/-- The 7-bit I2C device address of the configuration memory (section 12.2). -/
abbrev memoryAddress : BitVec 7 := 0x50

/-- The LISTEN quiet limit in µs (R201). -/
abbrev quietLimit : Nat := 2048

/-- The PWM period in µs (R147). -/
abbrev pwmPeriod : Nat := 50

/-- The duty steps of a full PWM period (R147). -/
abbrev fullDuty : Nat := 4000

/-- The format mark of the image (section 13.4). -/
abbrev formatMark : Half := 0x4A16

end Sys2Proof.Config
end

