-- ==== Sys2Proof/Syntax.lean ====
section
/-! DEFINITION. The commands of the block, one constructor of Instr per row of spec/opcode_table.json, and the
records and small types their operands are made of.

The operand `dt` of a command is the number of microseconds that the part's own time base has counted since the
command before it (log entry 3); a command without it comes at the instant of the command before, or moves time on
by itself (TICK, QUIET_LIMIT). -/

namespace Sys2Proof

/-- A TAG record as it reaches the listen table: its tag, spacing in ticks, newest stamp and values, oldest first;
the sample count n is the number of values (section 13.2). -/
structure TagRecord where
  tag : Byte
  spacing : Byte
  newest : Stamp
  values : List Half
  deriving DecidableEq, Repr

/-- A NOTE record: newly raised set, all-set field, first-raise stamp (R158). -/
structure NoteRecord where
  newlyRaised : FlagSet
  allSet : FlagSet
  firstRaise : Stamp
  deriving DecidableEq, Repr

/-- The test block of a TEST frame (R185). -/
structure TestBlock where
  index : Half
  count : Half
  last : Bool
  pattern : List Byte
  deriving DecidableEq, Repr

/-- What a station hears from busy to quiet (R1, R39): the whole bytes after the preamble, and whether there was
activity beyond them that makes no byte (a cut byte, a jam mark, noise). -/
structure Heard where
  bytes : List Byte
  stray : Bool
  deriving DecidableEq, Repr

/-- One sample of ENC_A and ENC_B, taken together (R119). -/
structure EncSample where
  a : Bool
  b : Bool
  deriving DecidableEq, Repr

/-- Two consecutive samples of REQ0–REQ3, bit i the level of REQi, set for high (R169). -/
structure InputSamples where
  first : BitVec 4
  second : BitVec 4
  deriving DecidableEq, Repr

/-- Where an acknowledgement can be missing in an attempt (R194). -/
inductive AckPoint where
  | writeAddress
  | offset
  | readAddress
  deriving DecidableEq, Repr

/-- The clock that the memory holds low for more than 1 ms in an attempt (R194): in step 1 after `clocks` clocks, within
a byte that the loader sends, or in reading after the bytes `got`. -/
inductive HeldClock where
  | freeing (clocks : Nat)
  | sending (point : AckPoint)
  | reading (got : List Byte)
  deriving DecidableEq, Repr

/-- Why an I2C attempt fails, the stretched clock apart (R194). -/
inductive AttemptFault where
  | sdaStuck
  | noAck (point : AckPoint)
  deriving DecidableEq, Repr

/-- The order in which the lock window (R29), the roster expiry (R50) and the mix (R95) take one tick. Each name
lists the three in their order. The manual allows every order (R30, R95). -/
inductive TickOrder where
  | windowExpiryMix
  | windowMixExpiry
  | expiryWindowMix
  | expiryMixWindow
  | mixWindowExpiry
  | mixExpiryWindow
  deriving DecidableEq, Repr

/-- When a tick that a frame's own stamp produces is taken within its frame end (R44, R51, R88): before the roster
update, or after the update and after the first n records (or test block) handed on. -/
inductive JumpTick where
  | afterStamp
  | afterRecords (n : Nat)
  deriving DecidableEq, Repr

/-- The commands of the EJN-22: one constructor per row of the opcode table. -/
inductive Instr where
  /-- RESET (R203): RESET_N goes low, or power-up. -/
  | reset
  /-- RESET_RELEASE (R194): RESET_N goes high. `sdaLowClocks`: the CFG_SCL clocks for which CFG_SDA stays low. -/
  | resetRelease (sdaLowClocks : Nat)
  /-- ATTEMPT_COMPLETE (R196): the 256 bytes an attempt has clocked in. -/
  | attemptComplete (image : List Byte)
  /-- ATTEMPT_FAILURE (R194). -/
  | attemptFailure (cause : AttemptFault)
  /-- CLOCK_STRETCH_TIMEOUT (R194): with where the clock was held. -/
  | clockStretchTimeout (held : HeldClock)
  /-- RETRY_WAIT_END (R195): `sdaLowClocks` as for RESET_RELEASE, for the retry that begins. -/
  | retryWaitEnd (sdaLowClocks : Nat)
  /-- QUIET_LIMIT (R201). -/
  | quietLimit
  /-- LINE_BUSY (R1). -/
  | lineBusy (dt : Nat)
  /-- FRAME_END (R20): `heard` is what was on the line; it is not read where this station was SENDING. `place` and
  `order` say how a tick that the frame's stamp produces is taken. -/
  | frameEnd (dt : Nat) (heard : Heard) (place : JumpTick) (order : TickOrder)
  /-- GAP_END (R5). -/
  | gapEnd (dt : Nat)
  /-- PASS_COMPLETE (R18). -/
  | passComplete (dt : Nat)
  /-- SLOT_BOUNDARY (R8): the boundary of slot `slot` of the pass in progress. -/
  | slotBoundary (dt : Nat) (slot : Nat)
  /-- COLLISION (R15). -/
  | collision (dt : Nat)
  /-- JAM_MARK_END (R15). -/
  | jamMarkEnd (dt : Nat)
  /-- CONSECUTIVE_COLLISION_LIMIT (R17). -/
  | consecutiveCollisionLimit
  /-- TICK (R31): the span clock, counting, reaches its next multiple of the control period. -/
  | tick (order : TickOrder)
  /-- LOCK_WINDOW_EXPIRY (R29). -/
  | lockWindowExpiry
  /-- ROSTER_EXPIRY (R50) of the record of one station. -/
  | rosterExpiry (station : Station)
  /-- NOISE_LEAK (R41). -/
  | noiseLeak
  /-- NOISE_BUCKET_FULL (R40). -/
  | noiseBucketFull
  /-- BEAT_DUE (R71). -/
  | beatDue
  /-- PUBLISH_SAMPLE (R55) of one publish entry. -/
  | publishSample (entry : Fin 8)
  /-- BURST_COMPLETE (R58) of one publish entry. -/
  | burstComplete (entry : Fin 8)
  /-- SATURATION_RUN_LIMIT (R111). -/
  | saturationRunLimit
  /-- TEST_QUIET_TIMEOUT (R189). -/
  | testQuietTimeout
  /-- EXCHANGE_COMPLETE (R124): with the 32 bits received, the first one received being bit 31. -/
  | exchangeComplete (dt : Nat) (word : BitVec 32)
  /-- FAILURE_RUN_LIMIT (R127). -/
  | failureRunLimit
  /-- EXCHANGE_RESTART (R128). -/
  | exchangeRestart (dt : Nat)
  /-- ENCODER_ACCEPTANCE (R120): the sample at which the acceptance falls, `second`, and the one before it, `first`. -/
  | encoderAcceptance (dt : Nat) (first : EncSample) (second : EncSample)
  /-- STOP_LINE_ASSERTION (R140). -/
  | stopLineAssertion (dt : Nat)
  /-- STOP_LINE_RELEASE (R141). -/
  | stopLineRelease (dt : Nat)
  /-- DRV_ATTN_ASSERTION (R142). -/
  | drvAttnAssertion (dt : Nat)
  /-- DRV_ATTN_RELEASE (R136). -/
  | drvAttnRelease (dt : Nat)
  /-- FALLING_EDGE (R171): the sample of the four inputs at which the edge is accepted, and the one before it. -/
  | fallingEdge (dt : Nat) (samples : InputSamples)
  /-- PWM_PERIOD_START (R148). -/
  | pwmPeriodStart (dt : Nat)
  /-- PASS_PULSE_END (R190): the low half, or the high half, of the pulse in progress ends. -/
  | passPulseEnd (dt : Nat)
  /-- TAG_RECORD (R77): a TAG record of a matching frame of station `sender`. -/
  | tagRecord (sender : Station) (record : TagRecord)
  /-- NOTE_RECORD (R163): a NOTE record of a matching frame of station `sender`. -/
  | noteRecord (sender : Station) (record : NoteRecord)
  /-- TEST_BLOCK (R187): the test block of a clean matching TEST frame of station `sender`. -/
  | testBlock (sender : Station) (block : TestBlock)
  /-- ARM (R137) reaching the drive unit. -/
  | arm
  /-- DISARM (R139) reaching the drive unit. -/
  | disarm
  /-- CLEAR (R164) acted on by the station. -/
  | clear
  /-- QUERY (R177) taken by the request unit. -/
  | query
  /-- TEST_START (R182) reaching the test unit. -/
  | testStart (sender : Station) (count : Half) (origin : Station)
  /-- TEST_STOP (R184) reaching the test unit. -/
  | testStop (sender : Station)
  /-- REQUEST_INPUT_LEVEL_ACCEPTANCE (R169): the two samples, where what the second accepts is no edge. -/
  | requestInputLevelAcceptance (dt : Nat) (first : BitVec 4) (second : BitVec 4)
  /-- ON_TIME_END (R147). -/
  | onTimeEnd (dt : Nat)
  deriving DecidableEq, Repr

end Sys2Proof
end

