-- ==== Sys2Proof/WellFormed.lean ====
section
/-! DEFINITION. Which commands are well formed: the operands lie in the ranges the manual gives. A command that is
not well formed leaves the state as it stands where its operand names nothing (log entry 5). -/

namespace Sys2Proof

/-- A TAG record that Formats finds usable: 1, 2 or 4 values (R77, R205). -/
def TagRecord.usable (r : TagRecord) : Bool :=
  r.values.length == 1 || r.values.length == 2 || r.values.length == 4

/-- A test block holds 32 pattern bytes (section 13.2). -/
def TestBlock.usable (b : TestBlock) : Bool :=
  b.pattern.length == 32

/-- The check of a command's operands. A falling edge shows some input low in both of its samples (R169). -/
def Instr.wellFormed : Instr → Bool
  | .attemptComplete image => image.length == Config.imageBytes
  | .clockStretchTimeout (.reading got) => got.length ≤ Config.imageBytes
  | .clockStretchTimeout (.freeing clocks) => clocks < Config.freeingClocks
  | .clockStretchTimeout (.sending _) => true
  | .slotBoundary _ slot => slot < Config.wheelSlots
  | .fallingEdge _ samples => (samples.first ||| samples.second) != 0b1111
  | .tagRecord _ record => record.usable
  | .testBlock _ block => block.usable
  | .reset | .resetRelease _ | .attemptFailure _ | .retryWaitEnd _ | .quietLimit | .lineBusy _
  | .frameEnd _ _ _ _ | .gapEnd _ | .passComplete _ | .collision _ | .jamMarkEnd _ | .consecutiveCollisionLimit
  | .tick _ | .lockWindowExpiry | .rosterExpiry _ | .noiseLeak | .noiseBucketFull | .beatDue | .publishSample _
  | .burstComplete _ | .saturationRunLimit | .testQuietTimeout | .exchangeComplete _ _ | .failureRunLimit
  | .exchangeRestart _ | .encoderAcceptance _ _ _ | .stopLineAssertion _ | .stopLineRelease _
  | .drvAttnAssertion _ | .drvAttnRelease _ | .pwmPeriodStart _ | .passPulseEnd _ | .noteRecord _ _ | .arm
  | .disarm | .clear | .query | .testStart _ _ _ | .testStop _ | .requestInputLevelAcceptance _ _ _
  | .onTimeEnd _ => true

end Sys2Proof
end

