-- ==== Sys2Proof/Decode.lean ====
section
/-! DEFINITION. Commands spelled by words. No row of spec/opcode_table.json gives bits: the commands of this block
are events, and none has an encoding (log entry 1). -/

namespace Sys2Proof

/-- The command that the word `w` of `nbits` bits spells: none, because no row of the table gives bits. -/
def decodeTableWord (_nbits _w : Nat) : Option Instr := none

end Sys2Proof
end

