-- ==== Sys2Proof/Machine/State.lean ====
section
/-! DEFINITION. The state of the EJN-22, block by block as section 2.1 of the manual lists the blocks, the queue of
commands that wait, and the state right after reset. -/

namespace Sys2Proof.Machine

/-! ## Names -/

/-- The part phases (R193). -/
inductive Phase where
  | load | off | listen | run
  deriving DecidableEq, Repr

/-- The transmit states of the bus controller (section 1.4). -/
inductive TxState where
  | silent | ready | sending | backoff | muted
  deriving DecidableEq, Repr

/-- The classes, each with its band (R3, R7). -/
inductive BusClass where
  | fault | demand | routine
  deriving DecidableEq, Repr

/-- The frame kinds of the header; a BEAT is a DATA frame of length 0 (R4). -/
inductive FrameKind where
  | data | test
  deriving DecidableEq, Repr

/-- The contention wheel (R5): not running, in the gap, or in a pass whose next boundary is that of slot `next`. -/
inductive Wheel where
  | stopped
  | gap
  | pass (next : Nat)
  deriving DecidableEq, Repr

/-- What this station drives onto the pair (R15). -/
inductive LineDrive where
  | released | frame | jam
  deriving DecidableEq, Repr

/-- The time states (R22). -/
inductive TimeState where
  | stopped | alone | locked | adrift
  deriving DecidableEq, Repr

/-- The slot states (R76). -/
inductive SlotState where
  | empty | live | aged | clash
  deriving DecidableEq, Repr

/-- The drive states (R133). -/
inductive DriveState where
  | off | disarmed | active | hold | coast
  deriving DecidableEq, Repr

/-- The stop action of the image (R134). -/
inductive StopAction where
  | hold | coast
  deriving DecidableEq, Repr

/-- The fourteen flags (R152), in the order of section 13.3. -/
inductive Flag where
  | config | twin | clash | feedLost | lockLost | period | linkNoise
  | contention | sensor | encoder | limit | saturation | driveAttn | remote
  deriving DecidableEq, Repr

/-- The request kinds (R168). -/
inductive RequestKind where
  | arm | disarm | clear | query | testStart | testStop
  deriving DecidableEq, Repr

/-- The kinds that can be refused (R179). -/
inductive Refusable where
  | arm | testStart
  deriving DecidableEq, Repr

/-- The test states (R181). -/
inductive TestState where
  | idle | sending | checking | done
  deriving DecidableEq, Repr

/-- An error pulse on PASS: none in progress, its low half or its high half (R190). -/
inductive Pulse where
  | none | low | high
  deriving DecidableEq, Repr

/-- The exchange state (R122); `restarting` is the 1 µs between an abandonment and the next exchange (R128). -/
inductive ExchangeState where
  | idle | exchanging | restarting
  deriving DecidableEq, Repr

/-- RATE_SCLK: low, or giving the clock periods of an exchange (R122; where each edge falls is log entry 24). -/
inductive SerialClock where
  | low | running
  deriving DecidableEq, Repr

/-- What the loader is at: before its first attempt, in an attempt, in the 1 ms wait, or past LOAD (R194, R195). -/
inductive LoaderStage where
  | idle | attempting | waiting | finished
  deriving DecidableEq, Repr

/-- The direction of an I2C address (R194). -/
inductive I2cDirection where
  | write | read
  deriving DecidableEq, Repr

/-- What the loader does on CFG_SCL and CFG_SDA in an attempt (R194): a clock of step 1, the conditions, a byte it
sends, a byte it clocks in and acknowledges or not, and the release of both lines. -/
inductive I2cAct where
  | clock
  | start
  | repeatedStart
  | address (device : BitVec 7) (direction : I2cDirection)
  | byte (b : Byte)
  | read (acknowledged : Bool)
  | stop
  | release
  deriving DecidableEq, Repr

/-! ## The settings an accepted image gives (R200) -/

/-- The sources of a publish entry (R53). -/
inductive PublishSource where
  | position | rate | effort | integral
  deriving DecidableEq, Repr

/-- A publish entry of the image (R53). -/
structure PublishEntry where
  tag : Byte
  source : PublishSource
  interval : Nat
  burst : Nat
  startPhase : Nat
  enabled : Bool
  deriving DecidableEq, Repr

/-- A listen slot of the image (R75). -/
structure SlotSetting where
  tag : Byte
  enabled : Bool
  deriving DecidableEq, Repr

/-- The sources of a mix row (R93). -/
inductive MixSource where
  | position | rate | integral | priorEffort | bias
  | slot (k : Fin 12)
  deriving DecidableEq, Repr

/-- The uses of a mix row (R93). -/
inductive MixUse where
  | level | slope
  deriving DecidableEq, Repr

/-- The routes of a mix row (R93). -/
inductive MixRoute where
  | effort | integral | both
  deriving DecidableEq, Repr

/-- A mix row in use (R93). -/
structure MixRow where
  source : MixSource
  use : MixUse
  weight : Half
  route : MixRoute
  group : Fin 4
  deriving DecidableEq, Repr

/-- A request input's setting (R170); `kind` is none where the input is disabled. -/
structure InputSetting where
  kind : Option RequestKind
  mask : StationMask
  sender : Station
  count : Half
  deriving DecidableEq, Repr

/-- The settings that the blocks take from an accepted image (R197, R200). -/
structure Settings where
  station : Station
  period : Nat
  tolerance : Nat
  alignDelay : Nat
  ageLimit : Nat
  rosterTimeout : Nat
  beatInterval : Nat
  escalateMark : Nat
  relaxMark : Nat
  stopAction : StopAction
  watchMask : StationMask
  stopRoutes : FlagSet
  noteRoutes : FlagSet
  /-- The publish entries within the count, at most 8 (R53). -/
  publish : List PublishEntry
  slots : Vector SlotSetting 12
  /-- The 16 rows in the image's order, none where a row is unused (R93). -/
  mixRows : List (Option MixRow)
  effortLimit : Nat
  integralLimit : Nat
  integralShift : Nat
  lowLimit : Int
  highLimit : Int
  encoderCentre : BitVec 32
  saturationCount : Nat
  inputs : Vector InputSetting 4
  deriving DecidableEq, Repr

/-! ## Records kept by the blocks -/

/-- A sample: a stamp and a signed 16-bit value (R56). -/
structure Sample where
  stamp : Stamp
  value : Half
  deriving DecidableEq, Repr

/-- An outgoing request in the pending list, with the input that made it (R171). -/
structure PendingRequest where
  input : Fin 4
  kind : RequestKind
  origin : Station
  mask : StationMask
  sender : Station
  count : Half
  deriving DecidableEq, Repr

/-- A REQUEST record as it stands in a frame (section 13.2). -/
structure RequestRecord where
  kind : RequestKind
  origin : Byte
  mask : StationMask
  sender : Byte
  count : Half
  deriving DecidableEq, Repr

/-- A usable record of a DATA frame's payload (R205). STATUS has no owner, so nothing of it is kept. -/
inductive Record where
  | tag (r : TagRecord)
  | note (r : NoteRecord)
  | request (r : RequestRecord)
  | status
  deriving DecidableEq, Repr

/-- The status record as captured (R178). -/
structure StatusRecord where
  station : Station
  drive : Byte
  time : Byte
  flags : FlagSet
  effort : Half
  integral : Half
  position : Half
  rate : Half
  groupMask : BitVec 3
  slots : Vector SlotState 12
  present : StationMask
  test : Byte
  testErrors : Half
  collisions : Half
  corrupted : Half
  skipped : Half
  coalesces : Half
  lateSamples : Half
  laggards : Half
  refused : Byte
  lastRefused : Byte
  deriving DecidableEq, Repr

/-- The copy of the frame being sent (R12, R13): its header fields and the items captured into it. -/
structure FrameCopy where
  cls : BusClass
  station : Station
  kind : FrameKind
  period : Nat
  sequence : Byte
  stamp : Stamp
  note : Option NoteRecord
  requests : List PendingRequest
  status : Option StatusRecord
  tags : List TagRecord
  test : Option TestBlock
  deriving DecidableEq, Repr

/-! ## The blocks -/

/-- The span pair as this station hears it (R1). `abandoned`: the stretch of activity was on the line while reset
was taken, so its end brings no verdict (R38). -/
structure Line where
  busy : Bool
  abandoned : Bool
  deriving DecidableEq, Repr

/-- The bus controller (R11). -/
structure BusController where
  tx : TxState
  classInForce : Option BusClass
  sequence : Byte
  copy : Option FrameCopy
  /-- The frame being sent was read back different (R15). -/
  collided : Bool
  driving : LineDrive
  consecutive : Nat
  collisionTotal : Nat
  passTickIndex : BitVec 5
  position : BitVec 5
  quietWheels : Nat
  wheel : Wheel
  deriving DecidableEq, Repr

/-- The time unit (R37). The tick index is computed from the clock (State.tickIndex). -/
structure TimeUnit where
  clock : Stamp
  state : TimeState
  lockTimer : Nat
  skipped : Nat
  laggards : Nat
  /-- The stamp of the latest tick; before the first tick, the clock's starting value (log entry 3). -/
  lastTick : Stamp
  deriving DecidableEq, Repr

/-- One record of the roster (section 3.5). -/
structure StationRecord where
  present : Bool
  lastSequence : Byte
  lastHeard : Stamp
  missed : Nat
  noteFlags : FlagSet
  periodMismatch : Bool
  deriving DecidableEq, Repr

/-- The reception unit and the roster (R52). -/
structure Reception where
  noiseBucket : Nat
  leakCount : Nat
  corrupted : Nat
  arrival : Stamp
  roster : Vector StationRecord 32
  deriving DecidableEq, Repr

/-- What the publisher keeps for one publish entry (R54, R58). -/
structure PublishState where
  acc : Nat
  gather : List Sample
  deriving DecidableEq, Repr

/-- An outbox entry (section 4.3). -/
structure OutboxEntry where
  tag : Byte
  values : List Half
  newest : Stamp
  spacing : Byte
  inFlight : Bool
  revised : Bool
  deriving DecidableEq, Repr

/-- The publisher and the outbox (R74). -/
structure Publisher where
  entries : Vector PublishState 8
  outbox : List OutboxEntry
  escalated : Bool
  beatTimer : Nat
  beatDue : Bool
  coalesces : Nat
  deriving DecidableEq, Repr

/-- A listen slot (R92). -/
structure Slot where
  publisher : Option Station
  state : SlotState
  ring : List Sample
  late : Nat
  future : Nat
  deriving DecidableEq, Repr

/-- The history of local values (R101). -/
structure LocalValues where
  position : Int
  rate : Int
  integral : Int
  priorEffort : Int
  deriving DecidableEq, Repr

/-- The mix unit (R118). -/
structure MixUnit where
  integral : Int
  effort : Int
  prior : Int
  history : Option LocalValues
  /-- Bit g − 1 for group g; set means masked. -/
  mask : BitVec 3
  satRun : Nat
  atHigh : Bool
  atLow : Bool
  deriving DecidableEq, Repr

/-- The filter of an encoder channel or a request input; true is high (R119, R169). -/
structure InputFilter where
  prev : Option Bool
  level : Option Bool
  deriving DecidableEq, Repr

/-- The filter of the stop line or of DRV_ATTN; true is asserted (R135, R136). -/
structure LineFilter where
  prev : Option Bool
  asserted : Bool
  deriving DecidableEq, Repr

/-- The measurement unit (R132). -/
structure Measurement where
  encA : InputFilter
  encB : InputFilter
  count : BitVec 32
  exchange : ExchangeState
  /-- The bits received, as they stand at the completion; cleared where an exchange begins or is abandoned. -/
  received : BitVec 32
  countRef : Option (BitVec 4)
  lastRate : Half
  failureRun : Nat
  snapCount : BitVec 32
  snapRate : Half
  /-- RATE_CS, true is high. -/
  rateCs : Bool
  rateSclk : SerialClock
  /-- RATE_MOSI, true is high. -/
  rateMosi : Bool
  deriving DecidableEq, Repr

/-- A pending setting (R148). -/
structure DriveSetting where
  effort : Int
  state : DriveState
  deriving DecidableEq, Repr

/-- The drive unit (R151) and its outputs (R146). -/
structure DriveUnit where
  state : DriveState
  stop : LineFilter
  attn : LineFilter
  duty : Nat
  /-- The direction in force, true is high. -/
  direction : Bool
  pendingSetting : Option DriveSetting
  /-- µs since the PWM period began; none while the timer does not run. -/
  pwmTimer : Option Nat
  drvEn : Bool
  drvPwm : Bool
  drvDir : Bool
  deriving DecidableEq, Repr

/-- The fault unit (R167); the routes and the watch mask stand in the settings. -/
structure FaultUnit where
  flags : FlagSet
  notePending : Bool
  newlyRaised : FlagSet
  firstRaise : Stamp
  noteInFlight : Bool
  following : FlagSet
  followingStamp : Stamp
  /-- The STOP pin, true while the station pulls the line low. -/
  stopPull : Bool
  /-- The FAULT pin, true is high. -/
  faultPin : Bool
  deriving DecidableEq, Repr

/-- The request unit (R180). -/
structure RequestUnit where
  inputs : Vector InputFilter 4
  list : List PendingRequest
  statusPending : Bool
  refused : Nat
  lastRefused : Option Refusable
  deriving DecidableEq, Repr

/-- The test unit (R192). -/
structure TestUnit where
  state : TestState
  sender : Station
  frameCount : Nat
  index : Nat
  due : Bool
  quiet : Nat
  errors : Nat
  owed : Nat
  pulse : Pulse
  /-- The result held in DONE, true is high. -/
  result : Bool
  /-- The PASS pin, true is high. -/
  pass : Bool
  deriving DecidableEq, Repr

/-- The configuration loader (R203). -/
structure Loader where
  phase : Phase
  attempts : Nat
  stage : LoaderStage
  /-- The clocks that step 1 of the current attempt gave (R194). -/
  freeing : Nat
  /-- What the loader has done on CFG_SCL and CFG_SDA in the latest attempt, in order (R194, log entry 19). -/
  sent : List I2cAct
  buffer : List Byte
  listenQuiet : Nat
  deriving DecidableEq, Repr

/-- The whole block: its twelve blocks, the line as heard, RESET_N, the settings (none until an image is accepted)
and the queue of waiting commands, first in, first out. -/
structure State where
  resetLow : Bool
  settings : Option Settings
  line : Line
  bus : BusController
  time : TimeUnit
  rx : Reception
  pub : Publisher
  listen : Vector Slot 12
  mix : MixUnit
  meas : Measurement
  drive : DriveUnit
  fault : FaultUnit
  req : RequestUnit
  test : TestUnit
  loader : Loader
  pending : List Instr
  deriving DecidableEq, Repr

/-- No command of this part faults: the manual gives every event an effect. -/
inductive Fault
  deriving DecidableEq, Repr

/-- Why a command has no meaning. -/
inductive Refusal where
  /-- Raised by an arm of exec whose command has no meaning yet; safe. No arm raises it: every command has one. -/
  | notModelled (mnemonic : String)
  deriving DecidableEq, Repr

/-- What a command answers. -/
abbrev Result := Host.Outcome State Fault Refusal

/-! ## Reset -/

/-- R11. -/
def BusController.reset : BusController :=
  { tx := .silent, classInForce := none, sequence := 0, copy := none, collided := false, driving := .released,
    consecutive := 0, collisionTotal := 0, passTickIndex := 0, position := 0, quietWheels := 0, wheel := .stopped }

/-- R37. -/
def TimeUnit.reset : TimeUnit :=
  { clock := 0, state := .stopped, lockTimer := 0, skipped := 0, laggards := 0, lastTick := 0 }

/-- R52. -/
def StationRecord.reset : StationRecord :=
  { present := false, lastSequence := 0, lastHeard := 0, missed := 0, noteFlags := 0, periodMismatch := false }

/-- R52. -/
def Reception.reset : Reception :=
  { noiseBucket := 0, leakCount := 0, corrupted := 0, arrival := 0, roster := Vector.replicate 32 StationRecord.reset }

/-- R74. -/
def Publisher.reset : Publisher :=
  { entries := Vector.replicate 8 { acc := 0, gather := [] }, outbox := [], escalated := false, beatTimer := 0,
    beatDue := false, coalesces := 0 }

/-- R92. -/
def Slot.reset : Slot :=
  { publisher := none, state := .empty, ring := [], late := 0, future := 0 }

/-- R118. -/
def MixUnit.reset : MixUnit :=
  { integral := 0, effort := 0, prior := 0, history := none, mask := 0b111, satRun := 0, atHigh := false,
    atLow := false }

/-- R119, R169, R180: no previous sample and no accepted level. -/
def InputFilter.reset : InputFilter := { prev := none, level := none }

/-- R135, R136: no previous sample; released. -/
def LineFilter.reset : LineFilter := { prev := none, asserted := false }

/-- R132. -/
def Measurement.reset : Measurement :=
  { encA := .reset, encB := .reset, count := 0, exchange := .idle, received := 0, countRef := none, lastRate := 0,
    failureRun := 0, snapCount := 0, snapRate := 0, rateCs := true, rateSclk := .low,
    rateMosi := false }

/-- R151. -/
def DriveUnit.reset : DriveUnit :=
  { state := .off, stop := .reset, attn := .reset, duty := 0, direction := false, pendingSetting := none,
    pwmTimer := none, drvEn := false, drvPwm := false, drvDir := false }

/-- R167. -/
def FaultUnit.reset : FaultUnit :=
  { flags := 0, notePending := false, newlyRaised := 0, firstRaise := 0, noteInFlight := false, following := 0,
    followingStamp := 0, stopPull := false, faultPin := true }

/-- R180. -/
def RequestUnit.reset : RequestUnit :=
  { inputs := Vector.replicate 4 InputFilter.reset, list := [], statusPending := false, refused := 0,
    lastRefused := none }

/-- R192. -/
def TestUnit.reset : TestUnit :=
  { state := .idle, sender := 0, frameCount := 0, index := 1, due := false, quiet := 0, errors := 0, owed := 0,
    pulse := .none, result := true, pass := true }

/-- R203. -/
def Loader.reset : Loader :=
  { phase := .load, attempts := 0, stage := .idle, freeing := 0, sent := [], buffer := [], listenQuiet := 0 }

/-- The block at power-up, with RESET_N low and no command waiting. -/
def State.reset : State :=
  { resetLow := true, settings := none, line := { busy := false, abandoned := false }, bus := .reset, time := .reset,
    rx := .reset, pub := .reset, listen := Vector.replicate 12 Slot.reset, mix := .reset, meas := .reset,
    drive := .reset, fault := .reset, req := .reset, test := .reset, loader := .reset, pending := [] }

end Sys2Proof.Machine
end

