-- ==== Sys2Proof/Machine/Ops.lean ====
section
/-! DEFINITION. The arithmetic of section 4 of the introduction (modular stamp order, saturating counts, clamps,
arithmetic shifts), the one writer of each block of State, and the passing of time. -/

namespace Sys2Proof.Machine

/-! ## Arithmetic -/

/-- Stamp a is later than stamp b: (a − b) mod 2^32 lies in 1 … 2^31 − 1. -/
def later (a b : Stamp) : Bool := decide (1 ≤ (a - b).toNat ∧ (a - b).toNat < 2 ^ 31)

/-- The age of a stamp at `now`: (now − stamp) mod 2^32. -/
def age (now stamp : Stamp) : Nat := (now - stamp).toNat

/-- A saturating addition: the sum stops at `limit`. -/
def satAdd (limit n k : Nat) : Nat := min limit (n + k)

/-- x clamped to lo … hi. -/
def clamp (lo hi x : Int) : Int := max lo (min hi x)

/-- The arithmetic right shift: x / 2^k rounded toward minus infinity. -/
def sar (x : Int) (k : Nat) : Int := x / (2 ^ k : Int)

/-- A difference saturated to −32768 … 32767 (R103, R104). -/
def sat16 (x : Int) : Int := clamp (-32768) 32767 x

/-- A signed value as its 16 bits. -/
def toHalf (x : Int) : Half := BitVec.ofInt 16 x

/-- A count as a 16-bit field. -/
def countHalf (n : Nat) : Half := BitVec.ofNat 16 n

/-- Bit s of a station mask. -/
def inMask (m : StationMask) (s : Station) : Bool := m.getLsbD s.toNat

/-- The mask of one station. -/
def stationBit (s : Station) : StationMask := 1#32 <<< s.toNat

/-- A station number as an index of the roster. -/
def stationIndex (s : Station) : Fin 32 := s.toFin

/-- Every element of a vector changed by its place and value. -/
def mapAt {α : Type} {n : Nat} (f : Fin n → α → α) (v : Vector α n) : Vector α n :=
  Vector.ofFn fun i => f i (v.get i)

/-- One element of a vector replaced. -/
def putAt {α : Type} {n : Nat} (v : Vector α n) (i : Fin n) (a : α) : Vector α n :=
  mapAt (fun j x => if j = i then a else x) v

/-! ## The control period -/

/-- The control period 2^p in µs. -/
def Settings.periodUs (c : Settings) : Nat := 2 ^ c.period

/-- x − x mod 2^p: the latest multiple of the control period not after x. -/
def multipleAt (c : Settings) (x : Stamp) : Stamp := x - BitVec.ofNat 32 (x.toNat % c.periodUs)

/-! ## The writer of each block -/

def State.setResetLow (s : State) (x : Bool) : State := { s with resetLow := x }
def State.setSettings (s : State) (x : Option Settings) : State := { s with settings := x }
def State.setLine (s : State) (x : Line) : State := { s with line := x }
def State.setBus (s : State) (x : BusController) : State := { s with bus := x }
def State.setTime (s : State) (x : TimeUnit) : State := { s with time := x }
def State.setRx (s : State) (x : Reception) : State := { s with rx := x }
def State.setPub (s : State) (x : Publisher) : State := { s with pub := x }
def State.setListen (s : State) (x : Vector Slot 12) : State := { s with listen := x }
def State.setMix (s : State) (x : MixUnit) : State := { s with mix := x }
def State.setMeas (s : State) (x : Measurement) : State := { s with meas := x }
def State.setDrive (s : State) (x : DriveUnit) : State := { s with drive := x }
def State.setFault (s : State) (x : FaultUnit) : State := { s with fault := x }
def State.setReq (s : State) (x : RequestUnit) : State := { s with req := x }
def State.setTest (s : State) (x : TestUnit) : State := { s with test := x }
def State.setLoader (s : State) (x : Loader) : State := { s with loader := x }
def State.setPending (s : State) (x : List Instr) : State := { s with pending := x }

/-! ## Readings -/

/-- The current span time; 0 while the clock is STOPPED (R21). -/
def State.now (s : State) : Stamp := if s.time.state = .stopped then 0 else s.time.clock

/-- The tick index (R34): the low five bits of the span clock divided by 2^p. -/
def State.tickIndex (s : State) : BitVec 5 :=
  match s.settings with
  | none => 0
  | some c => BitVec.ofNat 5 (s.now.toNat / c.periodUs)

/-- Some station other than `own` is present (R29, R30). -/
def othersPresent (own : Station) (roster : Vector StationRecord 32) : Bool :=
  (List.finRange 32).any fun j => decide (j ≠ stationIndex own) && (roster.get j).present

/-- POSITION (R56, R100): the snapshot count less the encoder centre, clamped to −32767 … 32767. -/
def Settings.positionOf (c : Settings) (count : BitVec 32) : Int :=
  clamp (-32767) 32767 (count - c.encoderCentre).toInt

/-- The integral divided by 1024 and truncated toward zero (R56, R100, R178). -/
def MixUnit.integralValue (m : MixUnit) : Int := m.integral.tdiv 1024

/-! ## Time passing (log entry 3) -/

/-- R21: the span clock gains 1 at each microsecond while it runs. -/
def TimeUnit.count (t : TimeUnit) (us : Nat) : TimeUnit :=
  if t.state = .stopped then t else { t with clock := t.clock + BitVec.ofNat 32 us }

/-- R201: the listen quiet timer counts in LISTEN while the line is quiet, up to 2048. -/
def Loader.count (l : Loader) (quiet : Bool) (us : Nat) : Loader :=
  if l.phase = .listen ∧ quiet then { l with listenQuiet := satAdd Config.quietLimit l.listenQuiet us } else l

/-- R147: the PWM timer counts from reset release, its periods following one another without a gap. -/
def DriveUnit.count (d : DriveUnit) (us : Nat) : DriveUnit :=
  { d with pwmTimer := d.pwmTimer.map fun t => (t + us) % Config.pwmPeriod }

/-- `us` microseconds pass on the part's own time base. -/
def State.advance (s : State) (us : Nat) : State :=
  ((s.setTime (s.time.count us)).setLoader (s.loader.count (!s.line.busy) us)).setDrive (s.drive.count us)

end Sys2Proof.Machine
end

