-- ==== Sys2Proof/Machine/Flags.lean ====
section
/-! DEFINITION. The fault unit: the fourteen flags, their routes, the FAULT and STOP pins and the pending note
(chapter Faults and notes). -/

namespace Sys2Proof.Machine

/-- The bit of a flag (section 13.3). -/
def Flag.bit : Flag → Nat
  | .config => 0
  | .twin => 1
  | .clash => 2
  | .feedLost => 3
  | .lockLost => 4
  | .period => 5
  | .linkNoise => 6
  | .contention => 7
  | .sensor => 8
  | .encoder => 9
  | .limit => 10
  | .saturation => 11
  | .driveAttn => 12
  | .remote => 13

/-- The flag set that holds one flag. -/
def Flag.single (f : Flag) : FlagSet := 1#14 <<< f.bit

/-- Flag `f` is in the set. -/
def hasFlag (fs : FlagSet) (f : Flag) : Bool := fs.getLsbD f.bit

/-- The STOP routes in force: none before acceptance, never CONFIG's (R153). -/
def State.stopRoutes (s : State) : FlagSet :=
  match s.settings with
  | none => 0
  | some c => c.stopRoutes

/-- The NOTE routes in force: none before acceptance, never CONFIG's (R153). -/
def State.noteRoutes (s : State) : FlagSet :=
  match s.settings with
  | none => 0
  | some c => c.noteRoutes

/-- R155, R156: FAULT is low while a flag is set; the station pulls the stop line while a STOP-routed flag is set. -/
def FaultUnit.drivePins (stopRoutes : FlagSet) (u : FaultUnit) : FaultUnit :=
  { u with faultPin := decide (u.flags = 0), stopPull := decide (u.flags &&& stopRoutes ≠ 0) }

/-- R157: flags that rise join the newly raised set, or the following set while the note is in flight. -/
def FaultUnit.joinNote (rising : FlagSet) (now : Stamp) (u : FaultUnit) : FaultUnit :=
  if rising = 0 then u
  else if u.noteInFlight then
    { u with following := u.following ||| rising,
             followingStamp := if u.following = 0 then now else u.followingStamp }
  else if u.notePending then { u with newlyRaised := u.newlyRaised ||| rising }
  else { u with notePending := true, newlyRaised := rising, firstRaise := now }

/-- R152, R155–R157: a raise sets a clear flag and its routes act; a flag already set is left as it stands. -/
def FaultUnit.raise (stopRoutes noteRoutes : FlagSet) (now : Stamp) (f : Flag) (u : FaultUnit) : FaultUnit :=
  if hasFlag u.flags f then u
  else (({ u with flags := u.flags ||| f.single }).joinNote (f.single &&& noteRoutes) now).drivePins stopRoutes

/-- A block raises flag `f`. -/
def raise (f : Flag) (s : State) : State :=
  s.setFault (s.fault.raise s.stopRoutes s.noteRoutes s.now f)

/-- A block raises flag `f` if `b` holds. -/
def raiseIf (b : Bool) (f : Flag) (s : State) : State := if b then raise f s else s

/-- R154: at acceptance the routes, now in force, act on the flags already set. -/
def applyRoutes (s : State) : State :=
  s.setFault ((s.fault.joinNote (s.fault.flags &&& s.noteRoutes) s.now).drivePins s.stopRoutes)

/-- R158: the NOTE record captured at the start of a DATA frame, none where no note is pending. -/
def FaultUnit.capturedNote (u : FaultUnit) : Option NoteRecord :=
  if u.notePending then some { newlyRaised := u.newlyRaised, allSet := u.flags, firstRaise := u.firstRaise } else none

/-- R158: a captured note goes in flight with an empty following set, whose stamp keeps its last value (the model's
choice, log entry 32). -/
def FaultUnit.noteTaken (u : FaultUnit) : FaultUnit :=
  if u.notePending then { u with noteInFlight := true, following := 0 } else u

/-- R160: the clean end of the frame that carried the note. The first-raise stamp of a note state none and the following
stamp of an emptied following set keep their last values (the model's choice, log entry 32). -/
def FaultUnit.noteReleased (u : FaultUnit) : FaultUnit :=
  if u.following = 0 then { u with newlyRaised := 0, notePending := false, noteInFlight := false }
  else { u with newlyRaised := u.following, firstRaise := u.followingStamp, following := 0, noteInFlight := false }

/-- R161: a collided end of the frame that carried the note. The following stamp of the emptied following set keeps its
last value (the model's choice, log entry 32). -/
def FaultUnit.noteCollided (u : FaultUnit) : FaultUnit :=
  { u with newlyRaised := u.newlyRaised ||| u.following, following := 0, noteInFlight := false }

/-- R164, R165: the flags that a CLEAR leaves set if they are set: CONFIG and TWIN, and SENSOR, LIMIT and DRIVE_ATTN
while their conditions fail. -/
def clearKeeps (failureRun : Nat) (atHigh atLow attnAsserted : Bool) : FlagSet :=
  Flag.config.single ||| Flag.twin.single
    ||| (if failureRun = 0 then 0 else Flag.sensor.single)
    ||| (if atHigh || atLow then Flag.limit.single else 0)
    ||| (if attnAsserted then Flag.driveAttn.single else 0)

/-- R164: the fault unit takes a CLEAR; the note is left as it stands and the pins follow the flags that remain. -/
def clearFlags (s : State) : State :=
  s.setFault (({ s.fault with
    flags := s.fault.flags &&& clearKeeps s.meas.failureRun s.mix.atHigh s.mix.atLow s.drive.attn.asserted
    }).drivePins s.stopRoutes)

end Sys2Proof.Machine
end

