-- ==== Sys2Proof/Machine/Operands.lean ====
section
/-! DEFINITION. Bytes: the check (R204), reading a heard frame's header and payload (R39, R205) and the image
(R196–R198, R206). -/

namespace Sys2Proof.Machine

/-! ## The check -/

/-- The bits of a byte, most significant first. -/
def byteBits (b : Byte) : List Bool :=
  [b.getLsbD 7, b.getLsbD 6, b.getLsbD 5, b.getLsbD 4, b.getLsbD 3, b.getLsbD 2, b.getLsbD 1, b.getLsbD 0]

/-- R204: the register after some bits. -/
def crcBits : List Bool → Half → Half
  | [], crc => crc
  | b :: bs, crc => if crc.msb != b then crcBits bs ((crc <<< 1) ^^^ 0x1021#16) else crcBits bs (crc <<< 1)

/-- R204: the check of a run of bytes. -/
def crc16 (bytes : List Byte) : Half := crcBits (bytes.flatMap byteBits) 0xFFFF#16

/-! ## Fields of several bytes, most significant first -/

/-- A 16-bit field. -/
def half (hi lo : Byte) : Half := hi ++ lo

/-- A 32-bit field. -/
def word (b3 b2 b1 b0 : Byte) : BitVec 32 := (b3 ++ b2 : BitVec 16) ++ (b1 ++ b0 : BitVec 16)

/-- The bytes of a 16-bit field. -/
def halfBytes (h : Half) : List Byte := [h.extractLsb' 8 8, h.extractLsb' 0 8]

/-- The bytes of a 32-bit field. -/
def wordBytes (w : BitVec 32) : List Byte :=
  [w.extractLsb' 24 8, w.extractLsb' 16 8, w.extractLsb' 8 8, w.extractLsb' 0 8]

/-- The values of a TAG record; none where the bytes are not whole values. -/
def halves : List Byte → Option (List Half)
  | [] => some []
  | [_] => none
  | hi :: lo :: rest => (halves rest).map (half hi lo :: ·)

/-- The flag set of a 16-bit field; the two most significant bits are not read (R205). -/
def flagField (h : Half) : FlagSet := h.truncate 14

/-! ## Records -/

/-- The request kind of a kind code (section 13.2). -/
def RequestKind.ofCode (code : Byte) : Option RequestKind :=
  match code.toNat with
  | 1 => some .arm
  | 2 => some .disarm
  | 3 => some .clear
  | 4 => some .query
  | 5 => some .testStart
  | 6 => some .testStop
  | _ => none

/-- The kind names a test, so that the record's sender station is read (R205). -/
def RequestKind.isTest : RequestKind → Bool
  | .testStart | .testStop => true
  | .arm | .disarm | .clear | .query => false

/-- R205: the record that a kind byte and the bytes after the record head hold; none where it is not usable. -/
def readRecord (kind : Byte) (body : List Byte) : Option Record :=
  match kind.toNat, body with
  | 1, tag :: n :: spacing :: s3 :: s2 :: s1 :: s0 :: rest =>
    match halves rest with
    | none => none
    | some values =>
      if values.length = n.toNat ∧ (n.toNat = 1 ∨ n.toNat = 2 ∨ n.toNat = 4) then
        some (.tag { tag := tag, spacing := spacing, newest := word s3 s2 s1 s0, values := values })
      else none
  | 2, [n1, n0, a1, a0, s3, s2, s1, s0] =>
    some (.note { newlyRaised := flagField (half n1 n0), allSet := flagField (half a1 a0),
                  firstRaise := word s3 s2 s1 s0 })
  | 3, [code, origin, m3, m2, m1, m0, sender, c1, c0] =>
    match RequestKind.ofCode code with
    | none => none
    | some k =>
      if k.isTest ∧ 31 < sender.toNat then none
      else some (.request { kind := k, origin := origin, mask := word m3 m2 m1 m0, sender := sender,
                            count := half c1 c0 })
  | 4, body => if body.length = 38 then some .status else none
  | _, _ => none

/-- R205: the walk of a payload, with `fuel` at least its number of bytes. -/
def walkFrom : Nat → List Byte → List Record
  | fuel + 1, kind :: length :: rest =>
    if length.toNat < 2 ∨ rest.length < length.toNat - 2 then []
    else (readRecord kind (rest.take (length.toNat - 2))).toList ++ walkFrom fuel (rest.drop (length.toNat - 2))
  | _, _ => []

/-- R205: the usable records of a payload, in record order. -/
def walk (payload : List Byte) : List Record := walkFrom payload.length payload

/-- The test block of a 37-byte payload; a last-flag byte other than 0 is set (R205). -/
def readTestBlock : List Byte → Option TestBlock
  | i1 :: i0 :: c1 :: c0 :: last :: pattern =>
    if pattern.length = 32 then
      some { index := half i1 i0, count := half c1 c0, last := last != 0, pattern := pattern }
    else none
  | _ => none

/-! ## Heard frames -/

/-- A clean heard frame (R39), its header fields as R3 reads them. -/
structure HeardFrame where
  cls : Nat
  station : Station
  kind : FrameKind
  period : Byte
  sequence : Byte
  length : Nat
  stamp : Stamp
  payload : List Byte
  deriving DecidableEq, Repr

/-- R39: the frame that a stretch of activity is, or none where it is corrupted: too short or too long for its
length field, a wrong check, class 3, or a length above 64. -/
def readFrame (heard : Heard) : Option HeardFrame :=
  match heard.bytes with
  | b0 :: period :: sequence :: length :: s3 :: s2 :: s1 :: s0 :: rest =>
    let payload := rest.take length.toNat
    let check := rest.drop length.toNat
    if heard.stray = false ∧ check.length = 2 ∧ length.toNat ≤ Config.maxPayload ∧ (b0 >>> 6).toNat ≠ 3
        ∧ check = halfBytes (crc16 (b0 :: period :: sequence :: length :: s3 :: s2 :: s1 :: s0 :: payload))
    then
      some { cls := (b0 >>> 6).toNat, station := b0.extractLsb' 1 5,
             kind := if b0.getLsbD 0 then .test else .data, period := period, sequence := sequence,
             length := length.toNat, stamp := word s3 s2 s1 s0, payload := payload }
    else none
  | _ => none

/-! ## The image -/

/-- Byte `i` of the image. -/
def imageByte (img : List Byte) (i : Nat) : Byte := img.getD i 0

/-- The 16-bit field at byte `i` of the image. -/
def imageHalf (img : List Byte) (i : Nat) : Half := half (imageByte img i) (imageByte img (i + 1))

/-- The 32-bit field at byte `i` of the image. -/
def imageWord (img : List Byte) (i : Nat) : BitVec 32 :=
  word (imageByte img i) (imageByte img (i + 1)) (imageByte img (i + 2)) (imageByte img (i + 3))

/-- A value that must lie in lo … hi (R197). -/
def inRange (lo hi : Nat) (x : Nat) : Option Nat := if lo ≤ x ∧ x ≤ hi then some x else none

/-- The publish source of a code (section 13.4). -/
def PublishSource.ofCode (code : Byte) : Option PublishSource :=
  match code.toNat with
  | 0 => some .position
  | 1 => some .rate
  | 2 => some .effort
  | 3 => some .integral
  | _ => none

/-- R197, R206: publish entry `n`, at byte 21 + 8n. -/
def readPublishEntry (img : List Byte) (n : Nat) : Option PublishEntry := do
  let at' := 21 + 8 * n
  let source ← PublishSource.ofCode (imageByte img (at' + 1))
  let interval ← inRange 4 1024 (imageHalf img (at' + 2)).toNat
  let burst ← inRange 1 4 (imageByte img (at' + 4)).toNat
  if burst = 3 then none
  let startPhase ← inRange 0 (interval - 1) (imageHalf img (at' + 5)).toNat
  return { tag := imageByte img at', source := source, interval := interval, burst := burst,
           startPhase := startPhase, enabled := imageByte img (at' + 7) != 0 }

/-- R206: listen slot `k`, at byte 85 + 2k. -/
def readSlot (img : List Byte) (k : Nat) : SlotSetting :=
  { tag := imageByte img (85 + 2 * k), enabled := imageByte img (86 + 2 * k) != 0 }

/-- The mix source of a code other than 0 (section 13.4). -/
def MixSource.ofCode (code : Byte) : Option MixSource :=
  match code.toNat with
  | 1 => some .position
  | 2 => some .rate
  | 3 => some .integral
  | 4 => some .priorEffort
  | 5 => some .bias
  | n => if h : 16 ≤ n ∧ n - 16 < 12 then some (.slot ⟨n - 16, h.2⟩) else none

/-- The use of a code (section 13.4). -/
def MixUse.ofCode (code : Byte) : Option MixUse :=
  match code.toNat with
  | 0 => some .level
  | 1 => some .slope
  | _ => none

/-- The route of a code (section 13.4). -/
def MixRoute.ofCode (code : Byte) : Option MixRoute :=
  match code.toNat with
  | 0 => some .effort
  | 1 => some .integral
  | 2 => some .both
  | _ => none

/-- R197, R206: mix row `r`, at byte 109 + 6r. The outer none is a field out of range, the inner none an unused row. -/
def readMixRow (img : List Byte) (r : Nat) : Option (Option MixRow) :=
  let at' := 109 + 6 * r
  if imageByte img at' = 0 then some none
  else do
    let source ← MixSource.ofCode (imageByte img at')
    let use ← MixUse.ofCode (imageByte img (at' + 1))
    let route ← MixRoute.ofCode (imageByte img (at' + 4))
    let group ← inRange 0 3 (imageByte img (at' + 5)).toNat
    return some { source := source, use := use, weight := imageHalf img (at' + 2), route := route,
                  group := Fin.ofNat 4 group }

/-- R197, R206: request input `i`, at byte 219 + 8i; its sender station is checked for the test kinds alone. -/
def readInput (img : List Byte) (i : Nat) : Option InputSetting :=
  let at' := 219 + 8 * i
  let sender := imageByte img (at' + 5)
  let setting (kind : Option RequestKind) : InputSetting :=
    { kind := kind, mask := imageWord img (at' + 1), sender := sender.truncate 5, count := imageHalf img (at' + 6) }
  if imageByte img at' = 0 then some (setting none)
  else match RequestKind.ofCode (imageByte img at') with
    | none => none
    | some k => if k.isTest ∧ 31 < sender.toNat then none else some (setting (some k))

/-- The stop action of a code (section 13.4). -/
def StopAction.ofCode (code : Byte) : Option StopAction :=
  match code.toNat with
  | 0 => some .hold
  | 1 => some .coast
  | _ => none

/-- A route set: bit 0, CONFIG's, is not read (R153, section 13.4). -/
def routeField (h : Half) : FlagSet := flagField h &&& ~~~ Flag.config.single

/-- R197: the fields of the image, none where one is out of range. -/
def readSettings (img : List Byte) : Option Settings := do
  let station ← inRange 0 31 (imageByte img 2).toNat
  let period ← inRange 7 11 (imageByte img 3).toNat
  let tolerance ← inRange 1 31 (imageByte img 4).toNat
  let alignDelay ← inRange 0 4 (imageByte img 5).toNat
  let ageLimit ← inRange 1 64 (imageByte img 6).toNat
  let rosterTimeout ← inRange 8 255 (imageByte img 7).toNat
  let beatInterval ← inRange 2 64 (imageByte img 8).toNat
  let escalateMark ← inRange 2 8 (imageByte img 9).toNat
  let relaxMark ← inRange 0 7 (imageByte img 10).toNat
  let stopAction ← StopAction.ofCode (imageByte img 11)
  let publishCount ← inRange 0 8 (imageByte img 20).toNat
  let publish ← (List.range publishCount).mapM (readPublishEntry img)
  let mixRows ← (List.range 16).mapM (readMixRow img)
  let effortLimit ← inRange 1 32767 (imageHalf img 205).toNat
  let integralLimit ← inRange 0 32767 (imageHalf img 207).toNat
  let integralShift ← inRange 0 8 (imageByte img 209).toNat
  let lowLimit := (imageHalf img 210).toInt
  let highLimit := (imageHalf img 212).toInt
  if 0 < lowLimit ∨ highLimit < 0 then none
  let i0 ← readInput img 0
  let i1 ← readInput img 1
  let i2 ← readInput img 2
  let i3 ← readInput img 3
  return { station := BitVec.ofNat 5 station, period := period, tolerance := tolerance, alignDelay := alignDelay,
           ageLimit := ageLimit, rosterTimeout := rosterTimeout, beatInterval := beatInterval,
           escalateMark := escalateMark, relaxMark := relaxMark, stopAction := stopAction,
           watchMask := imageWord img 12, stopRoutes := routeField (imageHalf img 16),
           noteRoutes := routeField (imageHalf img 18), publish := publish,
           slots := Vector.ofFn fun k => readSlot img k.val, mixRows := mixRows, effortLimit := effortLimit,
           integralLimit := integralLimit, integralShift := integralShift, lowLimit := lowLimit,
           highLimit := highLimit, encoderCentre := imageWord img 214,
           saturationCount := (imageByte img 218).toNat, inputs := #v[i0, i1, i2, i3] }

/-- No element occurs twice. -/
def distinctTags : List Byte → Bool
  | [] => true
  | t :: ts => !ts.contains t && distinctTags ts

/-- The tags of the enabled publish entries. -/
def Settings.publishTags (c : Settings) : List Byte := (c.publish.filter (·.enabled)).map (·.tag)

/-- The tags of the enabled listen slots. -/
def Settings.slotTags (c : Settings) : List Byte := (c.slots.toList.filter (·.enabled)).map (·.tag)

/-- R198 for a mix row in use that reads a slot: it lies in group 1–3 and its slot is enabled. -/
def Settings.rowConsistent (c : Settings) (row : MixRow) : Bool :=
  match row.source with
  | .slot k => decide (row.group ≠ 0) && (c.slots.get k).enabled
  | .position | .rate | .integral | .priorEffort | .bias => true

/-- R198 for a publish entry: an enabled burst entry's interval is a multiple of 4 × burst. -/
def PublishEntry.consistent (e : PublishEntry) : Bool :=
  !e.enabled || e.burst == 1 || e.interval % (4 * e.burst) == 0

/-- R198: the consistency of the settings. -/
def Settings.consistent (c : Settings) : Bool :=
  distinctTags c.publishTags && distinctTags c.slotTags && c.publishTags.all (fun t => !c.slotTags.contains t)
    && c.mixRows.all (fun r => r.all c.rowConsistent) && c.publish.all PublishEntry.consistent
    && decide (c.relaxMark < c.escalateMark)

/-- R196–R198: the judgement of a whole buffer; none is a rejection. -/
def judgeImage (img : List Byte) : Option Settings :=
  if imageHalf img 0 = Config.formatMark ∧ crc16 (img.take 254) = imageHalf img 254 then
    match readSettings img with
    | none => none
    | some c => if c.consistent then some c else none
  else none

end Sys2Proof.Machine
end

