-- ==== Sys2Proof/Machine/Formats.lean ====
section
/-! DEFINITION. Writing bytes: the records, the test block and the frame that the bus controller sends (sections
13.1 and 13.2). -/

namespace Sys2Proof.Machine

/-- A station number in a byte. -/
def stationByte (s : Station) : Byte := s.zeroExtend 8

/-- A flag set in its 16-bit field, bits 14 and 15 zero (section 13.3). -/
def flagHalf (fs : FlagSet) : Half := fs.zeroExtend 16

/-- The kind code of a request kind (section 13.2). -/
def RequestKind.code : RequestKind → Byte
  | .arm => 1
  | .disarm => 2
  | .clear => 3
  | .query => 4
  | .testStart => 5
  | .testStop => 6

/-- The code of a drive state in a status record; OFF has none (section 13.2, R178). -/
def DriveState.statusCode : DriveState → Option Byte
  | .off => none
  | .disarmed => some 0
  | .active => some 1
  | .hold => some 2
  | .coast => some 3

/-- The code of a time state in a status record; STOPPED has none (section 13.2, R178). -/
def TimeState.statusCode : TimeState → Option Byte
  | .stopped => none
  | .alone => some 0
  | .locked => some 1
  | .adrift => some 2

/-- The code of a slot state (section 13.2). -/
def SlotState.code : SlotState → Byte
  | .empty => 0
  | .live => 1
  | .aged => 2
  | .clash => 3

/-- The code of a test state (section 13.2). -/
def TestState.code : TestState → Byte
  | .idle => 0
  | .sending => 1
  | .checking => 2
  | .done => 3

/-- The code of the last refused kind (section 13.2). -/
def refusedCode : Option Refusable → Byte
  | none => 0
  | some .arm => 1
  | some .testStart => 5

/-- Four slot states in one byte, the first in the two most significant bits. -/
def slotByte (a b c d : SlotState) : Byte := (a.code <<< 6) ||| (b.code <<< 4) ||| (c.code <<< 2) ||| d.code

/-- A TAG record, 9 + 2n bytes. -/
def encodeTag (r : TagRecord) : List Byte :=
  [1, BitVec.ofNat 8 (9 + 2 * r.values.length), r.tag, BitVec.ofNat 8 r.values.length, r.spacing]
    ++ wordBytes r.newest ++ r.values.flatMap halfBytes

/-- A NOTE record, 10 bytes. -/
def encodeNote (r : NoteRecord) : List Byte :=
  [2, 10] ++ halfBytes (flagHalf r.newlyRaised) ++ halfBytes (flagHalf r.allSet) ++ wordBytes r.firstRaise

/-- A REQUEST record, 11 bytes. -/
def RequestRecord.encode (r : RequestRecord) : List Byte :=
  [3, 11, r.kind.code, r.origin] ++ wordBytes r.mask ++ [r.sender] ++ halfBytes r.count

/-- A STATUS record, 40 bytes. -/
def StatusRecord.encode (r : StatusRecord) : List Byte :=
  [4, 40, stationByte r.station, r.drive, r.time] ++ halfBytes (flagHalf r.flags) ++ halfBytes r.effort
    ++ halfBytes r.integral ++ halfBytes r.position ++ halfBytes r.rate ++ [r.groupMask.zeroExtend 8]
    ++ [slotByte (r.slots.get 0) (r.slots.get 1) (r.slots.get 2) (r.slots.get 3),
        slotByte (r.slots.get 4) (r.slots.get 5) (r.slots.get 6) (r.slots.get 7),
        slotByte (r.slots.get 8) (r.slots.get 9) (r.slots.get 10) (r.slots.get 11)]
    ++ wordBytes r.present ++ [r.test] ++ halfBytes r.testErrors ++ halfBytes r.collisions ++ halfBytes r.corrupted
    ++ halfBytes r.skipped ++ halfBytes r.coalesces ++ halfBytes r.lateSamples ++ halfBytes r.laggards
    ++ [r.refused, r.lastRefused]

/-- The test block, 37 bytes. -/
def encodeTest (b : TestBlock) : List Byte :=
  halfBytes b.index ++ halfBytes b.count ++ [if b.last then 1 else 0] ++ b.pattern

/-- The REQUEST record that a pending request is carried as (R168, R171). -/
def PendingRequest.toRecord (r : PendingRequest) : RequestRecord :=
  { kind := r.kind, origin := stationByte r.origin, mask := r.mask, sender := stationByte r.sender, count := r.count }

/-- The payload of a frame copy, its items in the order of R13. -/
def FrameCopy.payload (f : FrameCopy) : List Byte :=
  match f.test with
  | some b => encodeTest b
  | none =>
    (f.note.map encodeNote).getD [] ++ f.requests.flatMap (fun r => r.toRecord.encode)
      ++ (f.status.map StatusRecord.encode).getD [] ++ f.tags.flatMap encodeTag

/-- The code of a class (section 13.2). -/
def BusClass.code : BusClass → Byte
  | .fault => 0
  | .demand => 1
  | .routine => 2

/-- The header bytes of a frame copy (R3, section 13.2). -/
def FrameCopy.header (f : FrameCopy) : List Byte :=
  [(f.cls.code <<< 6) ||| (stationByte f.station <<< 1) ||| (if f.kind = .test then 1 else 0),
   BitVec.ofNat 8 f.period, f.sequence, BitVec.ofNat 8 f.payload.length] ++ wordBytes f.stamp

/-- The bytes that the bus controller drives after the preamble: header, payload and check (R2, R204). -/
def FrameCopy.bytes (f : FrameCopy) : List Byte :=
  f.header ++ f.payload ++ halfBytes (crc16 (f.header ++ f.payload))

end Sys2Proof.Machine
end

