-- ==== Sys2Proof/Machine/Listen.lean ====
section
/-! DEFINITION. The listen table (chapter Listen slots and sample rings): taking a TAG record, purge and ageing at
ticks, and the clearing of a clash. -/

namespace Sys2Proof.Machine

/-- R80: the samples of a record, oldest first, with their derived stamps; `spacingUs` is spacing × 2^p. -/
def deriveSamples (newest : Stamp) (spacingUs : Nat) : List Half → List Sample
  | [] => []
  | v :: vs =>
    { stamp := newest - BitVec.ofNat 32 (vs.length * spacingUs), value := v } :: deriveSamples newest spacingUs vs

/-- R80. -/
def tagSamples (c : Settings) (r : TagRecord) : List Sample :=
  deriveSamples r.newest (r.spacing.toNat * c.periodUs) r.values

/-- R82: a stamp that is not later than the newest of the ring is late; with an empty ring none is (log entry 8). -/
def isLate (ring : List Sample) (stamp : Stamp) : Bool :=
  match ring.getLast? with
  | none => false
  | some newest => !later stamp newest.stamp

/-- R83: a sample appended as the newest, the oldest of 8 removed first. -/
def appendSample (ring : List Sample) (x : Sample) : List Sample :=
  (if Config.ringSize ≤ ring.length then ring.tail else ring) ++ [x]

/-- R81–R83: one sample judged; `bound` is the local span time plus the tolerance. Each sample is judged by its own
stamp, also past 2^31 beyond the bound (the model's choice, log entry 27). -/
def Slot.takeSample (bound : Stamp) (sender : Station) (slot : Slot) (x : Sample) : Slot :=
  if later x.stamp bound then { slot with future := satAdd Config.count16 slot.future 1 }
  else if isLate slot.ring x.stamp then { slot with late := satAdd Config.count16 slot.late 1 }
  else { slot with ring := appendSample slot.ring x, publisher := some (slot.publisher.getD sender) }

/-- R79: the sender is another station than the publisher, and the slot is not in CLASH. -/
def Slot.clashes (slot : Slot) (sender : Station) : Bool :=
  decide (slot.state ≠ .clash) && match slot.publisher with
    | none => false
    | some p => decide (p ≠ sender)

/-- R78–R83: a slot takes a record whole. -/
def Slot.takeRecord (bound : Stamp) (sender : Station) (samples : List Sample) (slot : Slot) : Slot :=
  if slot.state = .clash then slot
  else if slot.clashes sender then { slot with state := .clash, ring := [] }
  else samples.foldl (Slot.takeSample bound sender) slot

/-- R77: the enabled slot that names a tag. -/
def Settings.slotOf (c : Settings) (tag : Byte) : Option (Fin 12) :=
  (List.finRange 12).find? fun k => (c.slots.get k).enabled && (c.slots.get k).tag == tag

/-- The local span time plus the tolerance (R81). -/
def State.futureBound (c : Settings) (s : State) : Stamp := s.now + BitVec.ofNat 32 c.tolerance

/-- R77–R83: a TAG record from station `sender` reaches the listen table. -/
def tagTaken (c : Settings) (sender : Station) (r : TagRecord) (s : State) : State :=
  match c.slotOf r.tag with
  | none => s
  | some k =>
    raiseIf ((s.listen.get k).clashes sender) .clash
      (s.setListen (putAt s.listen k
        ((s.listen.get k).takeRecord (s.futureBound c) sender (tagSamples c r))))

/-- R85: the lag of a stamp at `now`. -/
def lag (tolerance : Nat) (now stamp : Stamp) : Nat :=
  if (stamp - now).toNat ≤ tolerance then 0 else age now stamp

/-- R85: the ring without the samples whose lag exceeds the purge age. After a jump of little more than 2^20 µs it keeps
a sample stamped ahead of the old clock, where R87 has every ring emptied (the model's choice, log entry 30). -/
def purge (tolerance : Nat) (now : Stamp) (ring : List Sample) : List Sample :=
  ring.filter fun x => decide (lag tolerance now x.stamp ≤ Config.purgeAge)

/-- R86: the state of a slot from its purged ring. -/
def ageState (tolerance limitUs : Nat) (now : Stamp) (ring : List Sample) : SlotState :=
  match ring.getLast? with
  | none => .empty
  | some newest => if lag tolerance now newest.stamp ≤ limitUs then .live else .aged

/-- R85, R86: the tick at one slot. -/
def Slot.tick (c : Settings) (now : Stamp) (enabled : Bool) (slot : Slot) : Slot :=
  if enabled = false ∨ slot.state = .clash then slot
  else
    let ring := purge c.tolerance now slot.ring
    { slot with ring := ring, state := ageState c.tolerance (c.ageLimit * c.periodUs) now ring }

/-- R85–R87: purge and ageing at a tick, against the clock at that instant. -/
def listenTick (c : Settings) (s : State) : State :=
  s.setListen (mapAt (fun k slot => slot.tick c s.now (c.slots.get k).enabled) s.listen)

/-- R89: a slot when the station acts on CLEAR. -/
def Slot.clear (slot : Slot) : Slot :=
  if slot.state = .clash then { slot with state := .empty, publisher := none } else slot

/-- R89. -/
def clearClashes (s : State) : State := s.setListen (mapAt (fun _ slot => slot.clear) s.listen)

/-- R84: the late samples of the status record. -/
def lateSamples (c : Settings) (slots : Vector Slot 12) : Nat :=
  min Config.count16 (((List.finRange 12).map fun k =>
    if (c.slots.get k).enabled then (slots.get k).late + (slots.get k).future else 0).sum)

/-- TAG_RECORD (R77): it reaches the listen table in RUN, from another station, usable. -/
def execTagRecord (sender : Station) (record : TagRecord) (s : State) : Result :=
  .next (match s.settings with
    | none => s
    | some c =>
      if s.loader.phase = .run ∧ sender ≠ c.station ∧ record.usable then tagTaken c sender record s else s)

end Sys2Proof.Machine
end

