-- ==== Sys2Proof/Machine/Measure.lean ====
section
/-! DEFINITION. The measurement unit (chapter Local measurement): the encoder, the rate sensor exchange and the tick
snapshot. -/

namespace Sys2Proof.Machine

/-! ## The encoder -/

/-- R119, R169: one sample of an input; a level is accepted at the second of two equal samples, from none too. -/
def InputFilter.sample (x : Bool) (f : InputFilter) : InputFilter :=
  { prev := some x, level := if f.prev = some x then some x else f.level }

/-- A sample that accepts no level: it becomes the previous sample alone (R119, R169). -/
def InputFilter.observe (x : Bool) (f : InputFilter) : InputFilter := { f with prev := some x }

/-- R120: the change of the encoder count when one channel of the pair (A, B) changes, or 0. -/
def quadStep : Bool → Bool → Bool → Bool → BitVec 32
  | false, false, true, false => 1
  | false, false, false, true => -1
  | true, false, true, true => 1
  | true, false, false, false => -1
  | true, true, false, true => 1
  | true, true, true, false => -1
  | false, true, false, false => 1
  | false, true, true, true => -1
  | _, _, _, _ => 0

/-- R121: both channels held a level and both change. -/
def illegalChange : Option Bool → Option Bool → Option Bool → Option Bool → Bool
  | some a, some b, some a', some b' => a != a' && b != b'
  | _, _, _, _ => false

/-- R120, R121: the count's change from the pair of accepted levels before to the pair after. -/
def countChange : Option Bool → Option Bool → Option Bool → Option Bool → BitVec 32
  | some a, some b, some a', some b' => quadStep a b a' b'
  | _, _, _, _ => 0

/-- R119: a sample of both channels at which neither accepts a level. -/
def observeEncoder (x : EncSample) (s : State) : State :=
  s.setMeas { s.meas with encA := s.meas.encA.observe x.a, encB := s.meas.encB.observe x.b }

/-- R119–R121: one sample of both channels. -/
def sampleEncoder (x : EncSample) (s : State) : State :=
  let a := s.meas.encA.sample x.a
  let b := s.meas.encB.sample x.b
  let s' := s.setMeas { s.meas with
    encA := a, encB := b,
    count := s.meas.count + countChange s.meas.encA.level s.meas.encB.level a.level b.level }
  raiseIf (illegalChange s.meas.encA.level s.meas.encB.level a.level b.level
    && (decide (s.loader.phase = .listen) || decide (s.loader.phase = .run))) .encoder s'

/-! ## The rate sensor exchange -/

/-- R122: an exchange begins: EXCHANGING, RATE_CS low, RATE_SCLK to run, the zero bits on RATE_MOSI, none received. -/
def Measurement.beginExchange (m : Measurement) : Measurement :=
  { m with exchange := .exchanging, received := 0, rateCs := false, rateSclk := .running, rateMosi := false }

/-- R122, R128: no exchange has the port: RATE_CS is high, RATE_SCLK and RATE_MOSI are low. -/
def Measurement.idlePort (m : Measurement) : Measurement :=
  { m with rateCs := true, rateSclk := .low, rateMosi := false }

/-- R123: the ready bit of the word. -/
def rateReady (w : BitVec 32) : Bool := w.getLsbD 31

/-- R123: the rolling count of the word. -/
def rateCount (w : BitVec 32) : BitVec 4 := w.extractLsb' 24 4

/-- R123: the rate of the word. -/
def rateValue (w : BitVec 32) : Half := w.extractLsb' 8 16

/-- R123: byte 3 equals the low 8 bits of the sum of bytes 0, 1 and 2. -/
def rateCheckRight (w : BitVec 32) : Bool :=
  decide (w.extractLsb' 0 8 = w.extractLsb' 24 8 + w.extractLsb' 16 8 + w.extractLsb' 8 8)

/-- R124: the rolling count equals the reference plus 1 mod 16, or the reference is absent. -/
def countFollows (reference : Option (BitVec 4)) (count : BitVec 4) : Bool :=
  match reference with
  | none => true
  | some r => decide (count = r + 1)

/-- R124: the exchange is good. -/
def rateGood (reference : Option (BitVec 4)) (w : BitVec 32) : Bool :=
  rateReady w && rateCheckRight w && countFollows reference (rateCount w)

/-- R125: the count reference after a completion. -/
def nextReference (reference : Option (BitVec 4)) (w : BitVec 32) : Option (BitVec 4) :=
  if rateReady w && rateCheckRight w then some (rateCount w) else reference

/-- R127: a failure run of 3 or more raises SENSOR. -/
def judgeFailureRun (s : State) : State := raiseIf (decide (Config.failureRunLimit ≤ s.meas.failureRun)) .sensor s

/-- R127: a failed exchange. -/
def exchangeFailed (s : State) : State :=
  judgeFailureRun (s.setMeas { s.meas with failureRun := satAdd Config.count8 s.meas.failureRun 1 })

/-- R124–R127: RATE_CS rises and the word received is judged. -/
def exchangeCompleted (w : BitVec 32) (s : State) : State :=
  let m := { s.meas.idlePort with
    exchange := .idle, received := w, countRef := nextReference s.meas.countRef w }
  if rateGood s.meas.countRef w then s.setMeas { m with lastRate := rateValue w, failureRun := 0 }
  else exchangeFailed (s.setMeas m)

/-- R129: the snapshot of a tick. -/
def Measurement.freeze (m : Measurement) : Measurement := { m with snapCount := m.count, snapRate := m.lastRate }

/-- R122, R128, R129: the tick's snapshot, then its exchange; one in progress is abandoned as failed, and the new one
begins 1 µs later. -/
def measureTick (s : State) : State :=
  match s.meas.exchange with
  | .idle => s.setMeas s.meas.freeze.beginExchange
  | .exchanging | .restarting =>
    exchangeFailed (s.setMeas { s.meas.freeze.idlePort with exchange := .restarting, received := 0 })

/-! ## The commands -/

/-- ENCODER_ACCEPTANCE (R119–R121): the sample before becomes the previous sample, and the filters judge the one after
it (log entry 14). No sample is taken while RESET_N is low (R132). -/
def execEncoderAcceptance (dt : Nat) (first second : EncSample) (s : State) : Result :=
  .next (if s.resetLow then s else sampleEncoder second (observeEncoder first (s.advance dt)))

/-- EXCHANGE_COMPLETE (R124), where an exchange is in progress. -/
def execExchangeComplete (dt : Nat) (word : BitVec 32) (s : State) : Result :=
  .next (if s.meas.exchange = .exchanging then exchangeCompleted word (s.advance dt) else s.advance dt)

/-- FAILURE_RUN_LIMIT (R127). -/
def execFailureRunLimit (s : State) : Result := .next (judgeFailureRun s)

/-- EXCHANGE_RESTART (R128): 1 µs after an abandonment the exchange of the new tick begins. -/
def execExchangeRestart (dt : Nat) (s : State) : Result :=
  .next (if s.meas.exchange = .restarting then (s.advance dt).setMeas (s.advance dt).meas.beginExchange
    else s.advance dt)

end Sys2Proof.Machine
end

