-- ==== Sys2Proof/Machine/Drive.lean ====
section
/-! DEFINITION. The drive unit (chapter Drive control and the stop line): the drive states, ARM and DISARM, the stop
line, DRV_ATTN and the power stage outputs. -/

namespace Sys2Proof.Machine

/-! ## Entries to the drive states -/

/-- R146: entry to DISARMED or COAST: the duty 0, the direction and the outputs low, the pending setting empty. -/
def DriveUnit.idleIn (st : DriveState) (d : DriveUnit) : DriveUnit :=
  { d with state := st, duty := 0, direction := false, pendingSetting := none, drvEn := false, drvPwm := false,
           drvDir := false }

/-- R115, R139, R146: entry to DISARMED; the mix unit sets the integral to 0. -/
def enterDisarmed (s : State) : State :=
  (s.setDrive (s.drive.idleIn .disarmed)).setMix { s.mix with integral := 0 }

/-- R140, R142, R146: entry to COAST; the integral keeps its value. -/
def enterCoast (s : State) : State := s.setDrive (s.drive.idleIn .coast)

/-- R137, R146: entry to ACTIVE; the duty and direction in force are kept (0 and low from DISARMED). -/
def enterActive (s : State) : State := s.setDrive { s.drive with state := .active, drvEn := true }

/-! ## Requests -/

/-- R179: an owner refuses a request of kind `k`. -/
def refuse (k : Refusable) (s : State) : State :=
  s.setReq { s.req with refused := satAdd Config.count8 s.req.refused 1, lastRefused := some k }

/-- R138: the four ARM conditions. -/
def State.armConditions (s : State) : Bool :=
  !s.drive.stop.asserted && !s.drive.attn.asserted && decide (s.fault.flags &&& s.stopRoutes = 0)
    && !(decide (s.test.state = .sending) || decide (s.test.state = .checking))

/-- R137: an ARM reaching the drive unit. -/
def armTaken (s : State) : State :=
  match s.drive.state with
  | .disarmed | .hold => if s.armConditions then enterActive s else refuse .arm s
  | .coast => refuse .arm s
  | .active | .off => s

/-- R139: a DISARM reaching the drive unit. -/
def disarmTaken (s : State) : State :=
  match s.drive.state with
  | .active | .hold | .coast => enterDisarmed s
  | .disarmed | .off => s

/-! ## The stop line and DRV_ATTN -/

/-- R135, R136: one sample of a sensed line; a level is accepted at the second of two equal samples. -/
def LineFilter.sample (level : Bool) (f : LineFilter) : LineFilter :=
  { prev := some level, asserted := if f.prev = some level then level else f.asserted }

/-- R140: what a stop line assertion does to the drive state. -/
def stopAsserted (s : State) : State :=
  match s.drive.state, s.settings with
  | .active, some c =>
    match c.stopAction with
    | .hold => s.setDrive { s.drive with state := .hold }
    | .coast => enterCoast s
  | _, _ => s

/-- R141: what a stop line release does to the drive state. -/
def stopReleased (s : State) : State :=
  match s.drive.state with
  | .coast => enterDisarmed s
  | .off | .disarmed | .active | .hold => s

/-- R142: what a DRV_ATTN assertion does: DRIVE_ATTN is raised, and ACTIVE or HOLD becomes COAST. -/
def attnAsserted (s : State) : State :=
  match s.drive.state with
  | .active | .hold => enterCoast (raise .driveAttn s)
  | .off | .disarmed | .coast => raise .driveAttn s

/-- R135: two consecutive samples of STOP show `level`; the acceptance, if the level changes, acts. -/
def senseStop (level : Bool) (s : State) : State :=
  let s' := s.setDrive { s.drive with stop := (s.drive.stop.sample level).sample level }
  if s.drive.stop.asserted = level then s' else if level then stopAsserted s' else stopReleased s'

/-- R136: two consecutive samples of DRV_ATTN show `level`; an accepted assertion acts (R142). -/
def senseAttn (level : Bool) (s : State) : State :=
  let s' := s.setDrive { s.drive with attn := (s.drive.attn.sample level).sample level }
  if s.drive.attn.asserted = level then s' else if level then attnAsserted s' else s'

/-! ## PWM -/

/-- R147: the duty of effort E, |E| × 4000 / 32767 rounded down. -/
def dutyOf (effort : Int) : Nat := effort.natAbs * Config.fullDuty / 32767

/-- R148: a pending setting applied, or discarded where the drive state has changed since its tick. -/
def DriveUnit.applySetting (d : DriveUnit) : DriveUnit :=
  match d.pendingSetting with
  | none => d
  | some x =>
    if (d.state = .active ∨ d.state = .hold) ∧ d.state = x.state then
      { d with duty := dutyOf x.effort, direction := decide (0 ≤ x.effort), pendingSetting := none }
    else { d with pendingSetting := none }

/-- R147: the outputs at the start of a period, from the duty and direction in force. -/
def DriveUnit.beginPeriod (d : DriveUnit) : DriveUnit :=
  if d.state = .active ∨ d.state = .hold then
    { d with pwmTimer := some 0, drvPwm := decide (0 < d.duty), drvDir := d.direction }
  else { d with pwmTimer := some 0 }

/-- R147: DRV_PWM goes low when the on-time runs out; a full duty has no such end within the period. -/
def DriveUnit.endOnTime (d : DriveUnit) : DriveUnit :=
  if d.duty < Config.fullDuty then { d with drvPwm := false } else d

/-! ## The commands -/

/-- ARM (R137), acted on in RUN alone (R175). -/
def execArm (s : State) : Result :=
  .next (if s.loader.phase = .run then armTaken s else s)

/-- DISARM (R139), acted on in RUN alone (R175). -/
def execDisarm (s : State) : Result :=
  .next (if s.loader.phase = .run then disarmTaken s else s)

/-- STOP_LINE_ASSERTION (R135, R140); no sample is taken while RESET_N is low (R151). -/
def execStopLineAssertion (dt : Nat) (s : State) : Result :=
  .next (if s.resetLow then s else senseStop true (s.advance dt))

/-- STOP_LINE_RELEASE (R135, R141). -/
def execStopLineRelease (dt : Nat) (s : State) : Result :=
  .next (if s.resetLow then s else senseStop false (s.advance dt))

/-- DRV_ATTN_ASSERTION (R136, R142). -/
def execDrvAttnAssertion (dt : Nat) (s : State) : Result :=
  .next (if s.resetLow then s else senseAttn true (s.advance dt))

/-- DRV_ATTN_RELEASE (R136, R142). -/
def execDrvAttnRelease (dt : Nat) (s : State) : Result :=
  .next (if s.resetLow then s else senseAttn false (s.advance dt))

/-- PWM_PERIOD_START (R147, R148); the timer does not run while RESET_N is low (R151). -/
def execPwmPeriodStart (dt : Nat) (s : State) : Result :=
  .next (if s.resetLow then s
    else (s.advance dt).setDrive (s.advance dt).drive.applySetting.beginPeriod)

/-- ON_TIME_END (R147). -/
def execOnTimeEnd (dt : Nat) (s : State) : Result :=
  .next (if s.resetLow then s else (s.advance dt).setDrive (s.advance dt).drive.endOnTime)

end Sys2Proof.Machine
end

