-- ==== Sys2Proof/Machine/Mix.lean ====
section
/-! DEFINITION. The mix unit (chapter Alignment and the mix): selection at the target instant, local sources, terms,
group masking, effort, soft limits and the integral. -/

namespace Sys2Proof.Machine

/-! ## Selection from a ring -/

/-- The outcome of a selection and its value (section 6.3). -/
inductive Selection where
  | stale
  | exact (v : Int)
  | bridged (v : Int)
  | held (v : Int)
  deriving DecidableEq, Repr

/-- The value of a selection; STALE has none. -/
def Selection.value : Selection → Option Int
  | .stale => none
  | .exact v | .bridged v | .held v => some v

/-- R99: the interpolated value at X between two samples, the quotient truncated toward zero. -/
def bridge (x : Stamp) (s0 s1 : Sample) : Int :=
  s0.value.toInt
    + ((s1.value.toInt - s0.value.toInt) * ((x - s0.stamp).toNat : Int)).tdiv ((s1.stamp - s0.stamp).toNat : Int)

/-- R98: the two consecutive samples that X lies strictly between. -/
def bridgePair (x : Stamp) : List Sample → Option (Sample × Sample)
  | s0 :: s1 :: rest =>
    if later x s0.stamp && later s1.stamp x then some (s0, s1) else bridgePair x (s1 :: rest)
  | _ => none

/-- R98: the selection from the ring of a LIVE slot at X (log entry 9 for a ring that is none of the four). -/
def selectRing (ring : List Sample) (x : Stamp) : Selection :=
  match ring.find? (fun y => decide (y.stamp = x)) with
  | some y => .exact y.value.toInt
  | none =>
    match ring.head?, ring.getLast? with
    | some oldest, some newest =>
      if later x newest.stamp then .held newest.value.toInt
      else if later oldest.stamp x then .held oldest.value.toInt
      else match bridgePair x ring with
        | some (s0, s1) => .bridged (bridge x s0 s1)
        | none => .stale
    | _, _ => .stale

/-- R97, R98: the selection of a slot at X. -/
def Slot.select (slot : Slot) (x : Stamp) : Selection :=
  match slot.state with
  | .live => selectRing slot.ring x
  | .empty | .aged | .clash => .stale

/-! ## Terms -/

/-- R96: the target instant of a tick stamped T. -/
def targetInstant (c : Settings) (stamp : Stamp) : Stamp := stamp - BitVec.ofNat 32 (c.alignDelay * c.periodUs)

/-- R100: the local values at this tick. -/
def State.localValues (c : Settings) (s : State) : LocalValues :=
  { position := c.positionOf s.meas.snapCount, rate := s.meas.snapRate.toInt, integral := s.mix.integralValue,
    priorEffort := s.mix.effort }

/-- R104: a local SLOPE, 0 where the history is empty. -/
def localSlope (now : Int) (before : Option Int) : Int :=
  match before with
  | none => 0
  | some b => sat16 (now - b)

/-- R102, R104: the value of a local source under a use; none is no local source. -/
def localTerm (v : LocalValues) (h : Option LocalValues) : MixSource → MixUse → Option Int
  | .position, .level => some v.position
  | .position, .slope => some (localSlope v.position (h.map (·.position)))
  | .rate, .level => some v.rate
  | .rate, .slope => some (localSlope v.rate (h.map (·.rate)))
  | .integral, .level => some v.integral
  | .integral, .slope => some (localSlope v.integral (h.map (·.integral)))
  | .priorEffort, .level => some v.priorEffort
  | .priorEffort, .slope => some (localSlope v.priorEffort (h.map (·.priorEffort)))
  | .bias, .level => some 1024
  | .bias, .slope => some 0
  | .slot _, _ => none

/-- R102, R103: the value of a slot term, none where the term is STALE. -/
def slotTerm (c : Settings) (slot : Slot) (stamp : Stamp) : MixUse → Option Int
  | .level => (slot.select (targetInstant c stamp)).value
  | .slope =>
    match (slot.select (targetInstant c stamp)).value,
      (slot.select (targetInstant c stamp - BitVec.ofNat 32 c.periodUs)).value with
    | some a, some b => some (sat16 (a - b))
    | _, _ => none

/-- R102–R104: the value of a term at the tick stamped `stamp`, none where it is STALE. -/
def termValue (c : Settings) (stamp : Stamp) (s : State) (row : MixRow) : Option Int :=
  match row.source with
  | .slot k => slotTerm c (s.listen.get k) stamp row.use
  | .position | .rate | .integral | .priorEffort | .bias =>
    localTerm (s.localValues c) s.mix.history row.source row.use

/-! ## Groups -/

/-- The rows in use (R93). -/
def Settings.rows (c : Settings) : List MixRow := c.mixRows.filterMap id

/-- R105: group `g` of 1–3 is masked: the time state is not LOCKED, or a term of it is STALE. -/
def groupMasked (c : Settings) (stamp : Stamp) (s : State) (g : Fin 4) : Bool :=
  decide (s.time.state ≠ .locked)
    || c.rows.any fun row => decide (row.group = g) && (termValue c stamp s row).isNone

/-- R105: the group mask of this tick, bit g − 1 for group g. -/
def groupMask (c : Settings) (stamp : Stamp) (s : State) : BitVec 3 :=
  BitVec.ofBool (groupMasked c stamp s 3) ++ BitVec.ofBool (groupMasked c stamp s 2)
    ++ BitVec.ofBool (groupMasked c stamp s 1)

/-- The mark of group `g` in a mask; group 0 is never masked (R105). -/
def maskedIn (mask : BitVec 3) (g : Fin 4) : Bool := decide (g ≠ 0) && mask.getLsbD (g.val - 1)

/-- R106: at an ACTIVE tick a group with a term in use goes from unmasked to masked. -/
def feedLost (c : Settings) (before after : BitVec 3) (drive : DriveState) : Bool :=
  decide (drive = .active)
    && c.rows.any fun row => maskedIn after row.group && !maskedIn before row.group

/-! ## Sums and effort -/

/-- R107, R108: the row counts: its group is unmasked, and in HOLD it is group 0. -/
def rowCounts (mask : BitVec 3) (drive : DriveState) (row : MixRow) : Bool :=
  decide (row.group = 0) || (!maskedIn mask row.group && decide (drive ≠ .hold))

/-- R107: the contribution of a row that counts; a row that does not counts 0. -/
def contribution (c : Settings) (stamp : Stamp) (s : State) (mask : BitVec 3) (row : MixRow) : Int :=
  if rowCounts mask s.drive.state row then ((termValue c stamp s row).getD 0) * row.weight.toInt else 0

/-- R108: S_e. -/
def effortSum (c : Settings) (stamp : Stamp) (s : State) (mask : BitVec 3) : Int :=
  ((c.rows.filter fun row => decide (row.route ≠ .integral)).map (contribution c stamp s mask)).sum

/-- R108: S_i. -/
def integralSum (c : Settings) (stamp : Stamp) (s : State) (mask : BitVec 3) : Int :=
  ((c.rows.filter fun row => decide (row.route ≠ .effort)).map (contribution c stamp s mask)).sum

/-- R109: the raw effort. -/
def rawEffort (se : Int) : Int := sar (se + 512) 10

/-- R110: the raw effort clamped to the effort limit. -/
def clampEffort (c : Settings) (raw : Int) : Int := clamp (-c.effortLimit) c.effortLimit raw

/-- R110: the clamp is engaged. -/
def clampEngaged (c : Settings) (raw : Int) : Bool := decide (raw < -c.effortLimit ∨ (c.effortLimit : Int) < raw)

/-- R111: the saturation run after a tick. -/
def nextSatRun (c : Settings) (run : Nat) (engaged : Bool) : Nat :=
  if c.saturationCount = 0 ∨ engaged = false then 0 else satAdd Config.count8 run 1

/-- R112: a soft limit acts on the clamped effort at this POSITION. -/
def limitActs (c : Settings) (position effort : Int) : Bool :=
  decide (c.highLimit ≤ position ∧ 0 < effort) || decide (position ≤ c.lowLimit ∧ effort < 0)

/-- R114, R115: the integral after a tick in the drive state read. -/
def nextIntegral (c : Settings) (i si : Int) (drive : DriveState) (acted : Bool) : Int :=
  match drive with
  | .active =>
    if acted then i
    else clamp (-(c.integralLimit * 1024)) (c.integralLimit * 1024) (i + sar si c.integralShift)
  | .hold | .coast => i
  | .disarmed | .off => 0

/-- R117: the mix unit after a tick, from the tick's mask, sums and local values. -/
def MixUnit.afterTick (c : Settings) (m : MixUnit) (v : LocalValues) (mask : BitVec 3) (se si : Int)
    (drive : DriveState) : MixUnit :=
  let raw := rawEffort se
  let acted := limitActs c v.position (clampEffort c raw)
  { integral := nextIntegral c m.integral si drive acted
    effort := if acted then 0 else clampEffort c raw
    prior := m.effort
    history := some v
    mask := mask
    satRun := nextSatRun c m.satRun (clampEngaged c raw)
    atHigh := decide (c.highLimit ≤ v.position)
    atLow := decide (v.position ≤ c.lowLimit) }

/-- R111: a tick that ends with the run at or above the count raises SATURATION. -/
def saturationJudged (c : Settings) (s : State) : State :=
  raiseIf (decide (0 < c.saturationCount ∧ c.saturationCount ≤ s.mix.satRun)) .saturation s

/-- R96–R117, R148: the mix takes the tick stamped `stamp`; the drive unit takes its effort as pending setting. -/
def mixTick (c : Settings) (stamp : Stamp) (s : State) : State :=
  let mask := groupMask c stamp s
  let v := s.localValues c
  let se := effortSum c stamp s mask
  let m := s.mix.afterTick c v mask se (integralSum c stamp s mask) s.drive.state
  saturationJudged c
    (raiseIf (limitActs c v.position (clampEffort c (rawEffort se))) .limit
      (raiseIf (feedLost c s.mix.mask mask s.drive.state) .feedLost
        ((s.setMix m).setDrive
          { s.drive with pendingSetting := some { effort := m.effort, state := s.drive.state } })))

/-- SATURATION_RUN_LIMIT (R111). -/
def execSaturationRunLimit (s : State) : Result :=
  .next (match s.settings with
    | none => s
    | some c => saturationJudged c s)

end Sys2Proof.Machine
end

