-- ==== Sys2Proof/Machine/Publish.lean ====
section
/-! DEFINITION. The publisher and the outbox (chapter Publication and the outbox). -/

namespace Sys2Proof.Machine

/-! ## The outbox -/

/-- An outbox request (R57, R58). -/
structure OutboxRequest where
  tag : Byte
  values : List Half
  newest : Stamp
  spacing : Byte
  deriving DecidableEq, Repr

/-- R69: the escalation state judged on a new entry count. -/
def escalation (c : Settings) (count : Nat) (before : Bool) : Bool :=
  if c.escalateMark ≤ count then true else if count ≤ c.relaxMark then false else before

/-- R63, R64: an entry whose contents a request replaces. -/
def OutboxEntry.replace (e : OutboxEntry) (r : OutboxRequest) : OutboxEntry :=
  { e with values := r.values, newest := r.newest, spacing := r.spacing, revised := e.revised || e.inFlight }

/-- R62: the entry that a request appends. -/
def OutboxRequest.entry (r : OutboxRequest) : OutboxEntry :=
  { tag := r.tag, values := r.values, newest := r.newest, spacing := r.spacing, inFlight := false, revised := false }

/-- R62–R64, R69, R70: the outbox takes a request. -/
def Publisher.takeRequest (c : Settings) (r : OutboxRequest) (p : Publisher) : Publisher :=
  if p.outbox.any (fun e => e.tag == r.tag) then
    { p with outbox := p.outbox.map fun e => if e.tag == r.tag then e.replace r else e
             coalesces := satAdd Config.count16 p.coalesces 1 }
  else
    { p with outbox := p.outbox ++ [r.entry]
             escalated := escalation c (p.outbox.length + 1) p.escalated }

/-- The bytes of an entry's TAG record (R65). -/
def OutboxEntry.size (e : OutboxEntry) : Nat := 9 + 2 * e.values.length

/-- R65: how many entries, from the head, fit in `space` bytes; the first that does not fit ends the fill. -/
def fitCount : Nat → List OutboxEntry → Nat
  | _, [] => 0
  | space, e :: rest => if e.size ≤ space then fitCount (space - e.size) rest + 1 else 0

/-- R65: the outbox with its first `k` entries marked in flight. -/
def markTaken (k : Nat) (outbox : List OutboxEntry) : List OutboxEntry :=
  ((outbox.take k).map fun e => { e with inFlight := true }) ++ outbox.drop k

/-- R65: the TAG record captured from an entry. -/
def OutboxEntry.record (e : OutboxEntry) : TagRecord :=
  { tag := e.tag, spacing := e.spacing, newest := e.newest, values := e.values }

/-- R66: the outbox after the clean end of a frame of this station: carried entries leave unless revised. -/
def releaseEntries (outbox : List OutboxEntry) : List OutboxEntry :=
  (outbox.filter fun e => !e.inFlight || e.revised).map fun e => { e with inFlight := false, revised := false }

/-- R66, R69: the clean end; escalation is judged once, if an entry left. -/
def Publisher.releaseClean (c : Settings) (p : Publisher) : Publisher :=
  let outbox := releaseEntries p.outbox
  { p with outbox := outbox
           escalated := if outbox.length = p.outbox.length then p.escalated
             else escalation c outbox.length p.escalated }

/-- R67: a collided end: every entry stays, its marks cleared. -/
def Publisher.releaseCollided (p : Publisher) : Publisher :=
  { p with outbox := p.outbox.map fun e => { e with inFlight := false, revised := false } }

/-! ## The publish table -/

/-- R54: the sampling step q in quarter ticks. -/
def PublishEntry.step (e : PublishEntry) : Nat := e.interval / e.burst

/-- The publish entry at a place, if it is within the count and enabled (R53). -/
def Settings.entryAt (c : Settings) (i : Fin 8) : Option PublishEntry :=
  match c.publish[i.val]? with
  | some e => if e.enabled then some e else none
  | none => none

/-- R54: an entry's accumulator and gather list when the part enters RUN. -/
def startEntry (c : Settings) (i : Fin 8) (x : PublishState) : PublishState :=
  match c.entryAt i with
  | some e => { acc := e.startPhase % e.step, gather := [] }
  | none => x

/-- R54: the publisher when the part enters RUN. -/
def Publisher.enterRun (c : Settings) (p : Publisher) : Publisher :=
  { p with entries := mapAt (startEntry c) p.entries }

/-- R56: the value that a source gives for the latest tick. -/
def sourceValue (c : Settings) (s : State) : PublishSource → Int
  | .position => c.positionOf s.meas.snapCount
  | .rate => s.meas.snapRate.toInt
  | .effort => s.mix.effort
  | .integral => s.mix.integralValue

/-- R59: the gather list after a sample: appended if it is exactly one step after the last, else started afresh. -/
def gatherSample (c : Settings) (e : PublishEntry) (gather : List Sample) (x : Sample) : List Sample :=
  match gather.getLast? with
  | none => [x]
  | some y => if x.stamp = y.stamp + BitVec.ofNat 32 (e.step / 4 * c.periodUs) then gather ++ [x] else [x]

/-- One entry's accumulator and gather list replaced. -/
def Publisher.setEntry (p : Publisher) (i : Fin 8) (x : PublishState) : Publisher :=
  { p with entries := putAt p.entries i x }

/-- R58: a gather list at b samples raises one request, newest stamp and spacing q/4, and is then empty. -/
def burstTaken (c : Settings) (i : Fin 8) (s : State) : State :=
  match c.entryAt i, (s.pub.entries.get i).gather.getLast? with
  | some e, some y =>
    let x := s.pub.entries.get i
    if 1 < e.burst ∧ e.burst ≤ x.gather.length then
      s.setPub ((s.pub.setEntry i { x with gather := [] }).takeRequest c
        { tag := e.tag, values := x.gather.map (·.value), newest := y.stamp, spacing := BitVec.ofNat 8 (e.step / 4) })
    else s
  | _, _ => s

/-- R55–R59: entry `e`, its accumulator at `acc`, takes one sample, stamped with the latest tick, and subtracts q. -/
def sampleDue (c : Settings) (i : Fin 8) (e : PublishEntry) (acc : Nat) (s : State) : State :=
  let x := s.pub.entries.get i
  let sample : Sample := { stamp := s.time.lastTick, value := toHalf (sourceValue c s e.source) }
  if e.burst = 1 then
    s.setPub ((s.pub.setEntry i { x with acc := acc - e.step }).takeRequest c
      { tag := e.tag, values := [sample.value], newest := sample.stamp, spacing := 0 })
  else
    burstTaken c i (s.setPub (s.pub.setEntry i { acc := acc - e.step, gather := gatherSample c e x.gather sample }))

/-- R55: an accumulator at q or more takes its sample. -/
def sampleTaken (c : Settings) (i : Fin 8) (s : State) : State :=
  match c.entryAt i with
  | none => s
  | some e =>
    if e.step ≤ (s.pub.entries.get i).acc then sampleDue c i e (s.pub.entries.get i).acc s else s

/-- R55: one entry at a tick: an enabled one adds 4 to its accumulator and samples if it is then due. -/
def entryTick (c : Settings) (s : State) (i : Fin 8) : State :=
  match c.entryAt i with
  | none => s
  | some e =>
    let x := s.pub.entries.get i
    if e.step ≤ x.acc + 4 then sampleDue c i e (x.acc + 4) s
    else s.setPub (s.pub.setEntry i { x with acc := x.acc + 4 })

/-- R55, R60: the entries at a tick, in increasing order of their numbers. -/
def publishTick (c : Settings) (s : State) : State := (List.finRange 8).foldl (entryTick c) s

/-! ## The beat timer -/

/-- R71: the beat timer at the beat interval sets the beat-due mark. -/
def Publisher.beatJudged (c : Settings) (p : Publisher) : Publisher :=
  if c.beatInterval ≤ p.beatTimer then { p with beatDue := true } else p

/-- R71: the beat timer at a tick. -/
def Publisher.beatTick (c : Settings) (p : Publisher) : Publisher :=
  ({ p with beatTimer := if p.beatTimer < c.beatInterval then p.beatTimer + 1 else p.beatTimer }).beatJudged c

/-- R71: a frame start of this station. -/
def Publisher.beatReload (p : Publisher) : Publisher := { p with beatTimer := 0, beatDue := false }

/-! ## The commands -/

/-- PUBLISH_SAMPLE (R55), where the entry's accumulator stands at q or more. -/
def execPublishSample (entry : Fin 8) (s : State) : Result :=
  .next (match s.settings with
    | none => s
    | some c => sampleTaken c entry s)

/-- BURST_COMPLETE (R58), where the entry's gather list holds b samples. -/
def execBurstComplete (entry : Fin 8) (s : State) : Result :=
  .next (match s.settings with
    | none => s
    | some c => burstTaken c entry s)

/-- BEAT_DUE (R71), where the beat timer stands at the beat interval. -/
def execBeatDue (s : State) : Result :=
  .next (match s.settings with
    | none => s
    | some c => s.setPub (s.pub.beatJudged c))

end Sys2Proof.Machine
end

