-- ==== Sys2Proof/Machine/SelfTest.lean ====
section
/-! DEFINITION. The test unit (chapter Bus self-test). -/

namespace Sys2Proof.Machine

/-- A test is running at this station. -/
def TestUnit.running (t : TestUnit) : Bool := decide (t.state = .sending) || decide (t.state = .checking)

/-- R190: the next owed pulse begins, where a test runs, a pulse is owed and none is in progress. -/
def TestUnit.startPulse (t : TestUnit) : TestUnit :=
  if t.running ∧ 0 < t.owed ∧ t.pulse = .none then { t with pulse := .low, pass := false } else t

/-- R190: `n` errors are counted, each owing a pulse. -/
def TestUnit.countErrors (n : Nat) (t : TestUnit) : TestUnit :=
  ({ t with errors := satAdd Config.count16 t.errors n, owed := satAdd Config.count8 t.owed n }).startPulse

/-- R191: entry to DONE. -/
def TestUnit.finish (t : TestUnit) : TestUnit :=
  { t with state := .done, result := decide (t.errors = 0), pass := decide (t.errors = 0), owed := 0, pulse := .none,
           due := false }

/-- R183: an accepted TEST_START. The result, which the table does not list, stands until the next DONE, and a sender's
quiet timer is 0 too (the model's choices, log entry 28). -/
def TestUnit.start (own sender : Station) (count : Nat) (t : TestUnit) : TestUnit :=
  { t with state := if sender = own then .sending else .checking, sender := sender, frameCount := count, index := 1,
           due := false, quiet := 0, errors := 0, owed := 0, pulse := .none, pass := true }

/-- R181: the index after another, from 65535 to 1. -/
def nextIndex (i : Nat) : Nat := if i = Config.maxTestIndex then 1 else i + 1

/-- R185: byte k of the pattern of an index. -/
def patternByte (index k : Nat) : Byte := BitVec.ofNat 8 (index + 37 * k + 90)

/-- R185: the 32 pattern bytes of an index. -/
def pattern (index : Nat) : List Byte := (List.range 32).map (patternByte index)

/-- R185: the frame to be sent is the last of the test. -/
def TestUnit.atLast (t : TestUnit) : Bool := decide (t.frameCount ≠ 0 ∧ t.index = t.frameCount)

/-- R185: the test block of the due frame. -/
def TestUnit.block (t : TestUnit) : TestBlock :=
  { index := countHalf t.index, count := countHalf t.frameCount, last := t.atLast, pattern := pattern t.index }

/-- R186: the clean end of a TEST frame of this station, which carried the last flag or not. -/
def TestUnit.sentClean (last : Bool) (t : TestUnit) : TestUnit :=
  if t.state ≠ .sending then t
  else if last then t.finish
  else { t with due := false, index := nextIndex t.index }

/-- R186: a collided end of a TEST frame of this station. -/
def TestUnit.sentCollided (t : TestUnit) : TestUnit := if t.state = .sending then t.countErrors 1 else t

/-- R188: a corrupted frame at a checker. -/
def TestUnit.corruptedFrame (t : TestUnit) : TestUnit := if t.state = .checking then t.countErrors 1 else t

/-- R187: the distance of an index from the expected index, mod 65535. -/
def testDistance (i e : Nat) : Nat := (i + Config.maxTestIndex - e) % Config.maxTestIndex

/-- R187: a test block judged against the expected index. -/
def TestUnit.judgeBlock (b : TestBlock) (t : TestUnit) : TestUnit :=
  let i := b.index.toNat
  let d := testDistance i t.index
  if i = 0 ∨ 32768 ≤ d then t.countErrors 1
  else { t.countErrors (d + if b.pattern = pattern i then 0 else 1) with index := nextIndex i }

/-- R187: a clean TEST frame of station `sender` at this station. -/
def TestUnit.takeBlock (sender : Station) (b : TestBlock) (t : TestUnit) : TestUnit :=
  if t.state = .checking ∧ sender = t.sender then
    let t' := ({ t with quiet := 0 }).judgeBlock b
    if b.last then t'.finish else t'
  else t

/-- R189: the quiet timer at 32 adds an error and ends the test. -/
def TestUnit.quietJudged (t : TestUnit) : TestUnit :=
  if t.state = .checking ∧ Config.testQuietLimit ≤ t.quiet then (t.countErrors 1).finish else t

/-- R185, R189: the test unit at a tick. -/
def TestUnit.tick (t : TestUnit) : TestUnit :=
  match t.state with
  | .sending => { t with due := true }
  | .checking => ({ t with quiet := satAdd Config.testQuietLimit t.quiet 1 }).quietJudged
  | .idle | .done => t

/-- R190: the low half of the pulse ends, one owed fewer; or its high half ends and the next owed pulse follows. -/
def TestUnit.endHalf (t : TestUnit) : TestUnit :=
  match t.pulse with
  | .low => { t with pulse := .high, pass := true, owed := t.owed - 1 }
  | .high => ({ t with pulse := .none }).startPulse
  | .none => t

/-- R182: a TEST_START reaching the test unit: accepted in DISARMED, refused in ACTIVE, HOLD and COAST. -/
def testStartTaken (c : Settings) (sender : Station) (count : Half) (s : State) : State :=
  match s.drive.state with
  | .disarmed => s.setTest (s.test.start c.station sender count.toNat)
  | .active | .hold | .coast => refuse .testStart s
  | .off => s

/-- R184: a TEST_STOP reaching the test unit. -/
def testStopTaken (c : Settings) (sender : Station) (s : State) : State :=
  if (s.test.state = .sending ∧ sender = c.station) ∨ (s.test.state = .checking ∧ sender = s.test.sender) then
    s.setTest s.test.finish
  else s

/-! ## The commands -/

/-- TEST_QUIET_TIMEOUT (R189), where the checker's quiet timer stands at 32. -/
def execTestQuietTimeout (s : State) : Result := .next (s.setTest s.test.quietJudged)

/-- PASS_PULSE_END (R190). -/
def execPassPulseEnd (dt : Nat) (s : State) : Result := .next ((s.advance dt).setTest s.test.endHalf)

/-- TEST_BLOCK (R187), of a clean matching frame of another station in RUN. -/
def execTestBlock (sender : Station) (block : TestBlock) (s : State) : Result :=
  .next (match s.settings with
    | none => s
    | some c =>
      if s.loader.phase = .run ∧ sender ≠ c.station ∧ block.usable then s.setTest (s.test.takeBlock sender block)
      else s)

/-- TEST_START (R182), acted on in RUN alone (R175); the origin station is not used. -/
def execTestStart (sender : Station) (count : Half) (_origin : Station) (s : State) : Result :=
  .next (match s.settings with
    | none => s
    | some c => if s.loader.phase = .run then testStartTaken c sender count s else s)

/-- TEST_STOP (R184), acted on in RUN alone (R175). -/
def execTestStop (sender : Station) (s : State) : Result :=
  .next (match s.settings with
    | none => s
    | some c => if s.loader.phase = .run then testStopTaken c sender s else s)

end Sys2Proof.Machine
end

