-- ==== Sys2Proof/Machine/Requests.lean ====
section
/-! DEFINITION. The request unit (chapter Requests, request inputs and status): the request inputs, the pending
list, acting on requests, and the status record. -/

namespace Sys2Proof.Machine

/-! ## Request inputs and the pending list -/

/-- R168, R171: the request that an input's setting makes. -/
def InputSetting.request (x : InputSetting) (i : Fin 4) (own : Station) (k : RequestKind) : PendingRequest :=
  { input := i, kind := k, origin := own
    mask := if k.isTest then x.mask ||| stationBit x.sender else x.mask
    sender := if k.isTest then x.sender else 0
    count := if k = .testStart then x.count else 0 }

/-- R171: a request joins the list, unless one of the same input is in it. -/
def joinList (list : List PendingRequest) (r : PendingRequest) : List PendingRequest :=
  if list.any (fun x => decide (x.input = r.input)) then list else list ++ [r]

/-- R170: an accepted falling edge on input `i` makes its request in LISTEN and RUN. -/
def edgeTaken (i : Fin 4) (s : State) : State :=
  match s.settings with
  | none => s
  | some c =>
    match (c.inputs.get i).kind with
    | none => s
    | some k =>
      if s.loader.phase = .listen ∨ s.loader.phase = .run then
        s.setReq { s.req with list := joinList s.req.list ((c.inputs.get i).request i c.station k) }
      else s

/-- R169: a sample of the four inputs at which none accepts a level. -/
def observeInputs (x : BitVec 4) (s : State) : State :=
  s.setReq { s.req with inputs := mapAt (fun i f => f.observe (x.getLsbD i.val)) s.req.inputs }

/-- R169: one sample accepts the low level on an input whose accepted level is high. -/
def InputFilter.falls (x : Bool) (f : InputFilter) : Bool :=
  decide (f.level = some true) && decide ((f.sample x).level = some false)

/-- The inputs on which one sample accepts a falling edge, in increasing order (R169, R170). -/
def RequestUnit.fallingAt (x : BitVec 4) (r : RequestUnit) : List (Fin 4) :=
  (List.finRange 4).filter fun i => (r.inputs.get i).falls (x.getLsbD i.val)

/-- R169–R171: one sample of the four inputs: every filter takes it, and the falling edges that it accepts make their
requests in increasing order of input. -/
def sampleInputs (x : BitVec 4) (s : State) : State :=
  (s.req.fallingAt x).foldl (fun t i => edgeTaken i t)
    (s.setReq { s.req with inputs := mapAt (fun i f => f.sample (x.getLsbD i.val)) s.req.inputs })

/-! ## Acting on requests -/

/-- R41, R89, R164, R176: the station acts on CLEAR. -/
def clearTaken (s : State) : State :=
  let s' := clearClashes (clearFlags s)
  s'.setRx { s'.rx with noiseBucket := 0 }

/-- R177: a QUERY sets the status-pending mark. -/
def queryTaken (s : State) : State := s.setReq { s.req with statusPending := true }

/-- R176: the owner of a request takes it. -/
def requestTaken (c : Settings) (r : RequestRecord) (s : State) : State :=
  match r.kind with
  | .arm => armTaken s
  | .disarm => disarmTaken s
  | .clear => clearTaken s
  | .query => queryTaken s
  | .testStart => testStartTaken c (r.sender.truncate 5) r.count s
  | .testStop => testStopTaken c (r.sender.truncate 5) s

/-- R175: a REQUEST record of a frame of station `frameStation` applies to this station. -/
def State.applies (c : Settings) (frameStation : Station) (r : RequestRecord) (s : State) : Bool :=
  decide (s.loader.phase = .run) && inMask r.mask c.station && r.origin == stationByte frameStation

/-- R175, R176: a REQUEST record of a frame reaches the request unit. -/
def actOn (c : Settings) (frameStation : Station) (s : State) (r : RequestRecord) : State :=
  if s.applies c frameStation r then requestTaken c r s else s

/-! ## The status record -/

/-- R178: the roster present mask. -/
def presentMask (roster : Vector StationRecord 32) : StationMask :=
  (List.finRange 32).foldl (fun m j => if (roster.get j).present then m ||| (1#32 <<< j.val) else m) 0

/-- R178: the status record captured at frame fill; none in OFF or STOPPED, where none is captured. -/
def State.capturedStatus (c : Settings) (s : State) : Option StatusRecord := do
  let drive ← s.drive.state.statusCode
  let time ← s.time.state.statusCode
  return { station := c.station, drive := drive, time := time, flags := s.fault.flags,
           effort := toHalf s.mix.effort, integral := toHalf s.mix.integralValue,
           position := toHalf ((s.mix.history.map (·.position)).getD 0),
           rate := toHalf ((s.mix.history.map (·.rate)).getD 0), groupMask := s.mix.mask,
           slots := Vector.ofFn fun k => (s.listen.get k).state, present := presentMask s.rx.roster,
           test := s.test.state.code, testErrors := countHalf s.test.errors,
           collisions := countHalf s.bus.collisionTotal, corrupted := countHalf s.rx.corrupted,
           skipped := countHalf s.time.skipped, coalesces := countHalf s.pub.coalesces,
           lateSamples := countHalf (lateSamples c s.listen), laggards := countHalf s.time.laggards,
           refused := BitVec.ofNat 8 s.req.refused, lastRefused := refusedCode s.req.lastRefused }

/-! ## The commands -/

/-- FALLING_EDGE (R169–R171): the sample before becomes the previous sample of every input, and the filters judge the
one after it (log entry 11). No sample is taken while RESET_N is low. -/
def execFallingEdge (dt : Nat) (samples : InputSamples) (s : State) : Result :=
  .next (if s.resetLow then s else sampleInputs samples.second (observeInputs samples.first (s.advance dt)))

/-- REQUEST_INPUT_LEVEL_ACCEPTANCE (R169): a sample is one event of the four inputs, so it is taken as FALLING_EDGE's
is; where it accepts no falling edge it changes the filters alone. -/
def execRequestInputLevelAcceptance (dt : Nat) (first second : BitVec 4) (s : State) : Result :=
  .next (if s.resetLow then s else sampleInputs second (observeInputs first (s.advance dt)))

/-- CLEAR (R164), acted on in RUN alone (R175). -/
def execClear (s : State) : Result := .next (if s.loader.phase = .run then clearTaken s else s)

/-- QUERY (R177), acted on in RUN alone (R175). -/
def execQuery (s : State) : Result := .next (if s.loader.phase = .run then queryTaken s else s)

end Sys2Proof.Machine
end

