-- ==== Sys2Proof/Machine/Clock.lean ====
section
/-! DEFINITION. The time unit (chapter Span time, ticks and lock), the roster expiry, the noise leak, and the tick as
every block takes it (R35). -/

namespace Sys2Proof.Machine

/-! ## Leaving LOCKED -/

/-- The time state becomes `st`; LOCK_LOST is raised if it was LOCKED (R28–R30). -/
def leaveTo (st : TimeState) (s : State) : State :=
  raiseIf (decide (s.time.state = .locked)) .lockLost (s.setTime { s.time with state := st })

/-- R29: the lock window at 16 with another station present: ADRIFT, LOCK_LOST raised. -/
def windowExpired (c : Settings) (s : State) : State :=
  if s.time.state = .locked ∧ Config.lockWindow ≤ s.time.lockTimer ∧ othersPresent c.station s.rx.roster then
    leaveTo .adrift s
  else s

/-- R29: the lock-window timer at a tick; the window acts at the tick that brings it to 16. -/
def windowTick (c : Settings) (s : State) : State :=
  if s.time.state = .locked ∧ s.time.lockTimer < Config.lockWindow then
    windowExpired c (s.setTime { s.time with lockTimer := s.time.lockTimer + 1 })
  else s

/-! ## The roster at ticks -/

/-- R50: a present record whose last-heard age exceeds the roster timeout. -/
def StationRecord.overdue (c : Settings) (now : Stamp) (r : StationRecord) : Bool :=
  r.present && decide (c.rosterTimeout * c.periodUs < age now r.lastHeard)

/-- R50: a record after the expiry. -/
def StationRecord.expire (c : Settings) (now : Stamp) (r : StationRecord) : StationRecord :=
  if r.overdue c now then { r with present := false } else r

/-- R30: the roster is replaced; where the present set loses its last other station, the time state becomes ALONE. -/
def replaceRoster (c : Settings) (roster : Vector StationRecord 32) (s : State) : State :=
  let s' := s.setRx { s.rx with roster := roster }
  if othersPresent c.station s.rx.roster && !othersPresent c.station roster then leaveTo .alone s' else s'

/-- R50: every record at a tick. -/
def rosterTick (c : Settings) (s : State) : State :=
  replaceRoster c (mapAt (fun _ r => r.expire c s.now) s.rx.roster) s

/-! ## The noise leak -/

/-- R41: the leak count at 4 returns to 0 and the bucket loses 1, if it holds more than 0. -/
def Reception.leakJudged (r : Reception) : Reception :=
  if Config.leakTicks ≤ r.leakCount then { r with leakCount := 0, noiseBucket := r.noiseBucket - 1 } else r

/-- R41: the reception unit at a tick. -/
def Reception.tick (r : Reception) : Reception := ({ r with leakCount := r.leakCount + 1 }).leakJudged

/-! ## The tick -/

/-- R30, R95: the lock window, the roster expiry and the mix take the tick in the order given. -/
def orderedTick (c : Settings) (stamp : Stamp) (order : TickOrder) (s : State) : State :=
  match order with
  | .windowExpiryMix => mixTick c stamp (rosterTick c (windowTick c s))
  | .windowMixExpiry => rosterTick c (mixTick c stamp (windowTick c s))
  | .expiryWindowMix => mixTick c stamp (windowTick c (rosterTick c s))
  | .expiryMixWindow => windowTick c (mixTick c stamp (rosterTick c s))
  | .mixWindowExpiry => rosterTick c (windowTick c (mixTick c stamp s))
  | .mixExpiryWindow => windowTick c (rosterTick c (mixTick c stamp s))

/-- R31, R35: a tick stamped `stamp`, taken by every block that works at ticks; the clock stands at the instant of
the tick. -/
def tickWork (c : Settings) (stamp : Stamp) (order : TickOrder) (s : State) : State :=
  let s := s.setTime { s.time with lastTick := stamp }
  let s := listenTick c (measureTick s)
  let s := s.setRx s.rx.tick
  let s := s.setTest s.test.tick
  let s := publishTick c (orderedTick c stamp order s)
  s.setPub (s.pub.beatTick c)

/-- The clock stands at a multiple of 2^p that has not had its tick (R33, log entry 3). -/
def State.tickOwed (c : Settings) (s : State) : Bool :=
  decide (s.time.clock.toNat % c.periodUs = 0) && decide (s.time.clock ≠ s.time.lastTick)

/-- R31: the multiple of 2^p that the clock, counting, reaches next. -/
def State.nextMultiple (c : Settings) (s : State) : Stamp :=
  if s.tickOwed c then s.time.clock else multipleAt c s.time.clock + BitVec.ofNat 32 c.periodUs

/-- R31: the clock counts to its next multiple and the tick is taken there. -/
def countedTick (c : Settings) (order : TickOrder) (s : State) : State :=
  tickWork c (s.nextMultiple c) order (s.advance (s.nextMultiple c - s.time.clock).toNat)

/-! ## Entering RUN -/

/-- R9, R202: the part enters RUN; the bus controller is MUTED if TWIN was raised in LISTEN, READY otherwise. -/
def enterRun (c : Settings) (s : State) : State :=
  (((s.setLoader { s.loader with phase := .run }).setBus
    { s.bus with tx := if hasFlag s.fault.flags .twin then .muted else .ready })).setPub (s.pub.enterRun c)

/-- R24, R25: the clock starts at `value` in a time state, its lock-window timer 0; the start produces no tick. -/
def startClock (st : TimeState) (value : Stamp) (s : State) : State :=
  s.setTime { s.time with clock := value, state := st, lockTimer := 0, lastTick := value }

/-! ## Stamp hand-offs -/

/-- R24: the clock at the end of the frame adopted from. -/
def adoptedClock (stamp : Stamp) (length : Nat) : Stamp := stamp + BitVec.ofNat 32 (12 + length)

/-- R26: the difference of a hand-off to a running clock. -/
def stampDiff (stamp arrival : Stamp) : Int := (stamp + BitVec.ofNat 32 Config.lineAllowance - arrival).toInt

/-- R32: the multiples of 2^p in the span that starts just after a and ends at b. -/
def crossed (c : Settings) (a b : Stamp) : Nat := (multipleAt c b - multipleAt c a).toNat / c.periodUs

/-- R32, R33: the multiples a jump to b reaches, one the clock stands at without its tick among them. -/
def State.jumpCount (c : Settings) (b : Stamp) (s : State) : Nat :=
  crossed c (if s.tickOwed c then s.time.clock - 1 else s.time.clock) b

/-- R26, R27, R32: the clock and the counts of a hand-off with this diff. -/
def jump (c : Settings) (diff : Int) (s : State) : State :=
  if 0 < diff then
    let b := s.time.clock + BitVec.ofInt 32 diff
    s.setTime { s.time with clock := b, skipped := satAdd Config.count16 s.time.skipped (s.jumpCount c b - 1) }
  else if diff < -c.tolerance then
    s.setTime { s.time with laggards := satAdd Config.count16 s.time.laggards 1 }
  else s

/-- R28: the running time states at a hand-off with this diff. -/
def judgeDiff (c : Settings) (diff : Int) (s : State) : State :=
  if -c.tolerance ≤ diff ∧ diff ≤ c.tolerance then
    s.setTime { s.time with state := .locked, lockTimer := 0 }
  else if c.tolerance < diff ∧ s.time.state = .locked then leaveTo .adrift s
  else s

/-- R32: the stamp of the tick that a hand-off produces, if its jump reaches a multiple. -/
def jumpTickStamp (c : Settings) (diff : Int) (s : State) : Option Stamp :=
  let b := s.time.clock + BitVec.ofInt 32 diff
  if 0 < diff ∧ 1 ≤ s.jumpCount c b then some (multipleAt c b) else none

/-! ## The commands -/

/-- TICK (R31), where the clock runs. -/
def execTick (order : TickOrder) (s : State) : Result :=
  .next (match s.settings with
    | none => s
    | some c => if s.time.state = .stopped then s else countedTick c order s)

/-- LOCK_WINDOW_EXPIRY (R29), where the timer stands at 16. -/
def execLockWindowExpiry (s : State) : Result :=
  .next (match s.settings with
    | none => s
    | some c => windowExpired c s)

/-- ROSTER_EXPIRY (R50) of one station's record, where it is overdue. -/
def execRosterExpiry (station : Station) (s : State) : Result :=
  .next (match s.settings with
    | none => s
    | some c =>
      if s.time.state = .stopped then s
      else replaceRoster c
        (putAt s.rx.roster (stationIndex station) ((s.rx.roster.get (stationIndex station)).expire c s.now)) s)

/-- NOISE_LEAK (R41), where the leak count stands at 4. -/
def execNoiseLeak (s : State) : Result := .next (s.setRx s.rx.leakJudged)

/-- QUIET_LIMIT (R25, R201): in LISTEN on a quiet line the listen quiet timer reaches 2048 and the clock starts
alone; a READY bus controller begins its first pass at once, with tick index 0. The timer stands at 2048 in RUN (the
model's choice, log entry 31). -/
def quietLimitTaken (c : Settings) (s : State) : State :=
  let s := s.advance (Config.quietLimit - s.loader.listenQuiet)
  let s := enterRun c (startClock .alone 0 s)
  s.setBus { s.bus with
    passTickIndex := 0
    position := if s.bus.tx = .ready then c.station else s.bus.position
    wheel := if s.bus.tx = .ready then .pass 0 else .stopped }

/-- QUIET_LIMIT (R201). -/
def execQuietLimit (s : State) : Result :=
  .next (match s.settings with
    | none => s
    | some c => if s.loader.phase = .listen ∧ s.line.busy = false then quietLimitTaken c s else s)

end Sys2Proof.Machine
end

