-- ==== Sys2Proof/Machine/Bus.lean ====
section
/-! DEFINITION. The bus controller (chapter The span bus): the contention wheel, the class, building a frame,
collisions and the end of a frame at its sender. -/

namespace Sys2Proof.Machine

/-! ## The wheel -/

/-- The bus controller runs the wheel (R5). -/
def BusController.runsWheel (b : BusController) : Bool := decide (b.tx = .ready) || decide (b.tx = .backoff)

/-- R6: a wheel pass begins: the pass tick index and the position are taken. -/
def beginPass (c : Settings) (s : State) : State :=
  s.setBus { s.bus with passTickIndex := s.tickIndex, position := c.station - s.tickIndex, wheel := .pass 0 }

/-- R1, R23, R201: the line is heard going busy. The arrival reading is the span time at the end of the preamble, 2 µs
later, and 0 with a STOPPED clock. The listen quiet timer returns to 0 in RUN too (the model's choice, log entry 31). -/
def lineHeardBusy (s : State) : State :=
  let s := s.setLine { busy := true, abandoned := s.resetLow }
  let s := s.setRx { s.rx with
    arrival := if s.time.state = .stopped then 0 else s.time.clock + BitVec.ofNat 32 Config.lineAllowance }
  let s := s.setLoader { s.loader with listenQuiet := 0 }
  s.setBus { s.bus with wheel := .stopped }

/-- R5: the line returns to quiet: the gap begins where the bus controller runs the wheel. -/
def lineHeardQuiet (s : State) : State :=
  (s.setLine { busy := false, abandoned := false }).setBus
    { s.bus with wheel := if s.bus.runsWheel then .gap else .stopped }

/-- R18: a pass completes in BACKOFF: the quiet-wheel count grows, and at 2 the bus controller becomes READY. -/
def BusController.passDone (b : BusController) : BusController :=
  if b.tx = .backoff then
    { b with quietWheels := b.quietWheels + 1
             tx := if Config.backoffPasses ≤ b.quietWheels + 1 then .ready else .backoff }
  else b

/-- R18: a clean frame from another station ends a BACKOFF. -/
def endBackoff (s : State) : State :=
  s.setBus { s.bus with tx := if s.bus.tx = .backoff then .ready else s.bus.tx }

/-! ## The class -/

/-- R7: the current class of the station. -/
def State.currentClass (s : State) : Option BusClass :=
  if s.fault.notePending then some .fault
  else if s.pub.escalated ∨ s.req.list ≠ [] then some .demand
  else if s.pub.outbox ≠ [] ∨ s.req.statusPending ∨ s.test.due ∨ s.pub.beatDue then some .routine
  else none

/-- R5: the first slot of a class's band. -/
def BusClass.band : BusClass → Nat
  | .fault => 0
  | .demand => 32
  | .routine => 64

/-- R6: the slot of a class at a position. -/
def BusClass.slotAt (k : BusClass) (position : BitVec 5) : Nat := k.band + position.toNat

/-! ## Building a frame -/

/-- R12: the kind of the frame that starts now. -/
def State.frameKind (s : State) : FrameKind :=
  if s.fault.notePending ∨ s.pub.escalated ∨ s.req.list ≠ [] then .data
  else if s.test.due then .test
  else .data

/-- The payload bytes that the note and the requests take (R4, R13). -/
def State.urgentBytes (s : State) : Nat := (if s.fault.notePending then 10 else 0) + 11 * s.req.list.length

/-- R13 step 3: the status record, if one is pending and its 40 bytes fit. -/
def State.statusTaken (c : Settings) (s : State) : Option StatusRecord :=
  if s.req.statusPending ∧ s.urgentBytes + 40 ≤ Config.maxPayload then s.capturedStatus c else none

/-- R13 step 4: the number of outbox entries taken. -/
def State.entriesTaken (c : Settings) (s : State) : Nat :=
  fitCount (Config.maxPayload - s.urgentBytes - (if (s.statusTaken c).isSome then 40 else 0)) s.pub.outbox

/-- R3, R12–R14: the copy captured at a frame start in class `k`. -/
def State.frameCopy (c : Settings) (k : BusClass) (s : State) : FrameCopy :=
  let data := decide (s.frameKind = .data)
  { cls := k, station := c.station, kind := s.frameKind, period := c.period, sequence := s.bus.sequence,
    stamp := s.now
    note := if data then s.fault.capturedNote else none
    requests := if data then s.req.list else []
    status := if data then s.statusTaken c else none
    tags := if data then (s.pub.outbox.take (s.entriesTaken c)).map OutboxEntry.record else []
    test := if data then none else some s.test.block }

/-- R12–R14: a frame starts in class `k`: the copy is captured, the sequence number advances, the beat timer is
reloaded, and what a DATA frame carries goes in flight. No arrival reading is taken for it, since R38 gives it no
verdict (the model's choice, log entry 29). -/
def startFrame (c : Settings) (k : BusClass) (s : State) : State :=
  let bus := { s.bus with
    tx := .sending, classInForce := some k, copy := some (s.frameCopy c k), sequence := s.bus.sequence + 1
    collided := false, driving := .frame, wheel := .stopped }
  let pub := if s.frameKind = .data then { s.pub with outbox := markTaken (s.entriesTaken c) s.pub.outbox } else s.pub
  let fault := if s.frameKind = .data then s.fault.noteTaken else s.fault
  (((s.setBus bus).setPub pub.beatReload).setFault fault).setLine { busy := true, abandoned := false }

/-- R8: the boundary of slot `slot` in the pass in progress: a frame starts if the controller is READY and the slot is
that of the station's current class. -/
def slotBoundaryTaken (c : Settings) (slot : Nat) (s : State) : State :=
  let s' := s.setBus { s.bus with wheel := .pass (slot + 1) }
  match s.currentClass with
  | none => s'
  | some k => if s.bus.tx = .ready ∧ k.slotAt s.bus.position = slot then startFrame c k s' else s'

/-- The boundary of slot `slot` is still to come in the pass in progress, on a quiet line. -/
def State.boundaryAhead (slot : Nat) (s : State) : Bool :=
  match s.bus.wheel with
  | .pass next => decide (next ≤ slot ∧ slot < Config.wheelSlots) && !s.line.busy
  | .stopped | .gap => false

/-! ## The end of a frame at its sender -/

/-- R17: the fourth consecutive collision: CONTENTION is raised, the count reset, and BACKOFF entered. -/
def collisionsJudged (s : State) : State :=
  if Config.collisionLimit ≤ s.bus.consecutive ∧ (s.bus.tx = .ready ∨ s.bus.tx = .sending) then
    raise .contention (s.setBus { s.bus with
      consecutive := 0, tx := .backoff, quietWheels := 0 })
  else s

/-- The bus controller is no longer sending: the copy and the class in force are given up. -/
def BusController.endFrame (b : BusController) : BusController :=
  { b with tx := .ready, classInForce := none, copy := none, collided := false, driving := .released }

/-- R16, R67, R161, R186: the counts of a collided end, and every item carried, which stays pending. -/
def collidedItems (f : FrameCopy) (s : State) : State :=
  let s := s.setBus { s.bus.endFrame with
    consecutive := s.bus.consecutive + 1
    collisionTotal := satAdd Config.count16 s.bus.collisionTotal 1 }
  let s := s.setFault (if f.note.isSome then s.fault.noteCollided else s.fault)
  let s := s.setPub s.pub.releaseCollided
  s.setTest (if f.kind = .test then s.test.sentCollided else s.test)

/-- R16, R17: a collided end. -/
def collidedEnd (f : FrameCopy) (s : State) : State := collisionsJudged (collidedItems f s)

/-- R172: the pending list without the requests that a frame carried. -/
def releaseRequests (carried list : List PendingRequest) : List PendingRequest :=
  list.filter fun r => !carried.any fun x => decide (x.input = r.input)

/-- R19: what a frame carried is released to its owners at its clean end. -/
def releaseCarried (c : Settings) (f : FrameCopy) (s : State) : State :=
  let s := s.setBus { s.bus.endFrame with consecutive := 0 }
  let s := s.setFault (if f.note.isSome then s.fault.noteReleased else s.fault)
  let s := s.setReq { s.req with
    list := releaseRequests f.requests s.req.list
    statusPending := s.req.statusPending && f.status.isNone }
  let s := s.setPub (s.pub.releaseClean c)
  s.setTest (match f.test with
    | some b => s.test.sentClean b.last
    | none => s.test)

/-- R19, R20: a clean end: the releases, then the station acts on the REQUEST records of its own frame. -/
def cleanEnd (c : Settings) (f : FrameCopy) (s : State) : State :=
  (f.requests.map PendingRequest.toRecord).foldl (actOn c c.station) (releaseCarried c f s)

/-- R15, R20: the frame end of a frame this station sent. -/
def ownFrameEnd (c : Settings) (s : State) : State :=
  match s.bus.copy with
  | none => s.setBus s.bus.endFrame
  | some f => if s.bus.collided then collidedEnd f s else cleanEnd c f s

/-! ## The commands -/

/-- LINE_BUSY (R1); a line already busy stays so. -/
def execLineBusy (dt : Nat) (s : State) : Result :=
  .next (if s.line.busy then s.advance dt else lineHeardBusy (s.advance dt))

/-- GAP_END (R5, R6). -/
def execGapEnd (dt : Nat) (s : State) : Result :=
  .next (match s.settings with
    | none => s.advance dt
    | some c =>
      if s.bus.wheel = .gap ∧ s.bus.runsWheel ∧ s.line.busy = false then beginPass c (s.advance dt) else s.advance dt)

/-- The wheel is in a pass. -/
def Wheel.inPass : Wheel → Bool
  | .pass _ => true
  | .stopped | .gap => false

/-- PASS_COMPLETE (R5, R18): the pass in progress completes on a quiet line and the next begins. -/
def execPassComplete (dt : Nat) (s : State) : Result :=
  .next (match s.settings with
    | none => s.advance dt
    | some c =>
      if s.bus.wheel.inPass ∧ s.bus.runsWheel ∧ s.line.busy = false then
        beginPass c ((s.advance dt).setBus s.bus.passDone)
      else s.advance dt)

/-- SLOT_BOUNDARY (R7, R8). -/
def execSlotBoundary (dt : Nat) (slot : Nat) (s : State) : Result :=
  .next (match s.settings with
    | none => s.advance dt
    | some c => if s.boundaryAhead slot then slotBoundaryTaken c slot (s.advance dt) else s.advance dt)

/-- COLLISION (R15): the sender stops its frame and drives a jam mark; it stays SENDING. -/
def execCollision (dt : Nat) (s : State) : Result :=
  .next (if s.bus.tx = .sending ∧ s.bus.collided = false then
      (s.advance dt).setBus { s.bus with collided := true, driving := .jam }
    else s.advance dt)

/-- JAM_MARK_END (R15): the sender releases the line. -/
def execJamMarkEnd (dt : Nat) (s : State) : Result :=
  .next (if s.bus.driving = .jam then (s.advance dt).setBus { s.bus with driving := .released } else s.advance dt)

/-- CONSECUTIVE_COLLISION_LIMIT (R17), where the consecutive-collision count stands at 4. -/
def execConsecutiveCollisionLimit (s : State) : Result := .next (collisionsJudged s)

end Sys2Proof.Machine
end

