-- ==== Sys2Proof/Machine/Receive.lean ====
section
/-! DEFINITION. The reception unit (chapter Reception and the roster): the judgement of a heard frame, the hand-off of
a matching frame, and FRAME_END as a whole. -/

namespace Sys2Proof.Machine

/-! ## Corrupted, twin and foreign frames -/

/-- R40: a full noise bucket raises LINK_NOISE. -/
def bucketJudged (s : State) : State := raiseIf (decide (s.rx.noiseBucket = Config.bucketFull)) .linkNoise s

/-- R40: the noise bucket takes a corrupted frame; going from 15 to 16 raises LINK_NOISE. -/
def fillBucket (s : State) : State :=
  if s.rx.noiseBucket < Config.bucketFull then bucketJudged (s.setRx { s.rx with noiseBucket := s.rx.noiseBucket + 1 })
  else s

/-- R40, R188: a corrupted frame. -/
def corruptedFrame (s : State) : State :=
  let s := s.setRx { s.rx with corrupted := satAdd Config.count16 s.rx.corrupted 1 }
  let s := fillBucket s
  s.setTest s.test.corruptedFrame

/-- R10: the bus controller becomes MUTED from READY or BACKOFF; SILENT, it waits for RUN (R42). -/
def mute (s : State) : State :=
  s.setBus { s.bus with tx := if s.bus.tx = .silent then .silent else .muted }

/-- R42: a twin frame. -/
def twinFrame (s : State) : State := mute (raise .twin s)

/-- A station's roster record. -/
def Reception.recordOf (r : Reception) (sender : Station) : StationRecord := r.roster.get (stationIndex sender)

/-- A station's roster record replaced. -/
def Reception.setRecord (r : Reception) (sender : Station) (x : StationRecord) : Reception :=
  { r with roster := putAt r.roster (stationIndex sender) x }

/-- R43: a foreign frame of station `sender`. -/
def foreignFrame (sender : Station) (s : State) : State :=
  let s := raise .period s
  endBackoff (s.setRx (s.rx.setRecord sender { s.rx.recordOf sender with periodMismatch := true }))

/-! ## Matching frames -/

/-- R24: the adoption. -/
def adopt (c : Settings) (f : HeardFrame) (s : State) : State :=
  enterRun c (startClock .locked (adoptedClock f.stamp f.length) s)

/-- R44 step 1: the stamp hand-off: the adoption in LISTEN, else R26–R28 by the diff. -/
def handOff (c : Settings) (f : HeardFrame) (s : State) : State :=
  if s.time.state = .stopped then (if s.loader.phase = .listen then adopt c f s else s)
  else judgeDiff c (stampDiff f.stamp s.rx.arrival) (jump c (stampDiff f.stamp s.rx.arrival) s)

/-- R32: the tick that the hand-off of a frame produces, if any. -/
def handOffTick (c : Settings) (f : HeardFrame) (s : State) : Option Stamp :=
  if s.time.state = .stopped then none else jumpTickStamp c (stampDiff f.stamp s.rx.arrival) s

/-- R47: missed after a frame: the sequence numbers skipped while the station was present. -/
def StationRecord.missedAfter (r : StationRecord) (sequence : Byte) : Nat :=
  if r.present then satAdd Config.count8 r.missed (sequence - r.lastSequence - 1).toNat else r.missed

/-- R47: the record of the sender after a matching frame, `heardAt` the span time at the end of its preamble. -/
def StationRecord.update (r : StationRecord) (sequence : Byte) (heardAt : Stamp) : StationRecord :=
  { r with missed := r.missedAfter sequence, lastSequence := sequence, lastHeard := heardAt, present := true,
           periodMismatch := false }

/-- R44 step 2, R47: the roster update; last heard is the span time at the frame end less 10 + length. -/
def rosterUpdate (f : HeardFrame) (s : State) : State :=
  s.setRx (s.rx.setRecord f.station ((s.rx.recordOf f.station).update f.sequence
    (s.now - BitVec.ofNat 32 (Config.frameOverhead + f.length))))

/-- R48, R163: a NOTE record of station `sender`: the roster takes its all-set field, then REMOTE is raised if the
station is watched. -/
def noteTakenFrom (c : Settings) (sender : Station) (r : NoteRecord) (s : State) : State :=
  raiseIf (inMask c.watchMask sender) .remote
    (s.setRx (s.rx.setRecord sender { s.rx.recordOf sender with noteFlags := r.allSet }))

/-- What a matching frame hands on: a record of a DATA frame, or the block of a TEST frame (R45, R46). -/
inductive Handed where
  | record (r : Record)
  | block (b : TestBlock)
  deriving DecidableEq, Repr

/-- R45, R46: the owner of what is handed on takes it. -/
def takeHanded (c : Settings) (sender : Station) (s : State) : Handed → State
  | .record (.tag r) => tagTaken c sender r s
  | .record (.note r) => noteTakenFrom c sender r s
  | .record (.request r) => actOn c sender s r
  | .record .status => s
  | .block b => s.setTest (s.test.takeBlock sender b)

/-- R45, R46, R205: what the payload of a matching frame hands on, in order. -/
def HeardFrame.handed (f : HeardFrame) : List Handed :=
  match f.kind with
  | .data => (walk f.payload).map .record
  | .test => ((readTestBlock f.payload).map Handed.block).toList

/-- How many of a frame's records are taken before its jump's tick. -/
def recordsBefore : JumpTick → Nat
  | .afterStamp => 0
  | .afterRecords n => n

/-- R44: a matching frame: the stamp, the roster update and the payload, in that order. A tick that the stamp
produces is taken where `place` says (R51, R88). -/
def matchingFrame (c : Settings) (place : JumpTick) (order : TickOrder) (f : HeardFrame) (s : State) : State :=
  let tick (t : State) : State :=
    match handOffTick c f s with
    | none => t
    | some stamp => tickWork c stamp order t
  let s1 := endBackoff (handOff c f s)
  let s2 := match place with
    | .afterStamp => rosterUpdate f (tick s1)
    | .afterRecords _ => rosterUpdate f s1
  let s3 := (f.handed.take (recordsBefore place)).foldl (takeHanded c f.station) s2
  let s4 := match place with
    | .afterStamp => s3
    | .afterRecords _ => tick s3
  (f.handed.drop (recordsBefore place)).foldl (takeHanded c f.station) s4

/-! ## The frame end -/

/-- R38, R39, R42–R44: the judgement of a heard frame in LISTEN or RUN. -/
def judgeHeard (c : Settings) (heard : Heard) (place : JumpTick) (order : TickOrder) (s : State) : State :=
  match readFrame heard with
  | none => corruptedFrame s
  | some f =>
    if f.station = c.station then twinFrame s
    else if f.period.toNat ≠ c.period then foreignFrame f.station s
    else matchingFrame c place order f s

/-- The reception unit judges the frame that ends: in LISTEN or RUN, unless it was on the line at a reset (R38). -/
def State.judges (s : State) : Bool :=
  (decide (s.loader.phase = .listen) || decide (s.loader.phase = .run)) && !s.line.abandoned

/-- R20: a frame end, less the line's return to quiet. -/
def frameEnded (c : Settings) (heard : Heard) (place : JumpTick) (order : TickOrder) (s : State) : State :=
  if s.bus.tx = .sending then ownFrameEnd c s
  else if s.judges then judgeHeard c heard place order s
  else s

/-! ## The commands -/

/-- FRAME_END (R20): the frame is taken, and the line is quiet. -/
def execFrameEnd (dt : Nat) (heard : Heard) (place : JumpTick) (order : TickOrder) (s : State) : Result :=
  .next (lineHeardQuiet (match s.settings with
    | none => s.advance dt
    | some c => frameEnded c heard place order (s.advance dt)))

/-- NOISE_BUCKET_FULL (R40), where the bucket stands at 16. -/
def execNoiseBucketFull (s : State) : Result := .next (bucketJudged s)

/-- NOTE_RECORD (R163): in RUN, from another station. -/
def execNoteRecord (sender : Station) (record : NoteRecord) (s : State) : Result :=
  .next (match s.settings with
    | none => s
    | some c =>
      if s.loader.phase = .run ∧ sender ≠ c.station then noteTakenFrom c sender record s else s)

end Sys2Proof.Machine
end

