-- ==== Sys2Proof/Machine/Load.lean ====
section
/-! DEFINITION. The configuration loader and reset (chapter Configuration and start-up). -/

namespace Sys2Proof.Machine

/-! ## What the loader sends (R194) -/

/-- Step 1: clocks that free CFG_SDA. -/
def freeingActs (clocks : Nat) : List I2cAct := List.replicate clocks .clock

/-- The byte that the memory acknowledges at a point. -/
def byteSent : AckPoint → I2cAct
  | .writeAddress => .address Config.memoryAddress .write
  | .offset => .byte 0
  | .readAddress => .address Config.memoryAddress .read

/-- Steps 2 and 3 up to the byte sent at a point. -/
def actsBefore : AckPoint → List I2cAct
  | .writeAddress => [.start]
  | .offset => [.start, byteSent .writeAddress]
  | .readAddress => [.start, byteSent .writeAddress, byteSent .offset, .repeatedStart]

/-- Steps 2 and 3 through the byte sent at a point. -/
def actsThrough (p : AckPoint) : List I2cAct := actsBefore p ++ [byteSent p]

/-- Step 3: the first `n` of the 256 bytes clocked in, each acknowledged except the last of the 256. -/
def readActs (n : Nat) : List I2cAct := (List.range n).map fun i => .read (decide (i + 1 < Config.imageBytes))

/-- Steps 2 to 4 of a complete attempt. -/
def transactionActs : List I2cAct := actsThrough .readAddress ++ readActs Config.imageBytes ++ [.stop]

/-! ## Attempts -/

/-- R194: an attempt begins; step 1 clocks CFG_SCL while CFG_SDA is low, up to 9 times, and the attempt fails, with a
stop condition, if it is still low then. -/
def Loader.beginAttempt (sdaLowClocks : Nat) (l : Loader) : Loader :=
  { l with freeing := min Config.freeingClocks sdaLowClocks
           sent := freeingActs (min Config.freeingClocks sdaLowClocks)
             ++ (if Config.freeingClocks < sdaLowClocks then [.stop] else [])
           stage := if Config.freeingClocks < sdaLowClocks then .waiting else .attempting }

/-- R194: an attempt fails and ends with a stop condition; the loader waits 1 ms. -/
def Loader.fail (cause : AttemptFault) (l : Loader) : Loader :=
  match cause with
  | .sdaStuck => l.beginAttempt (Config.freeingClocks + 1)
  | .noAck p => { l with stage := .waiting, sent := l.sent ++ actsThrough p ++ [.stop] }

/-- The clock can be held there in the attempt in progress (log entry 5). -/
def Loader.canHold (l : Loader) : HeldClock → Bool
  | .freeing clocks => decide (clocks < l.freeing)
  | .sending _ => true
  | .reading got => decide (got.length ≤ Config.imageBytes)

/-- R194: a clock is held low for more than 1 ms: the attempt fails and the loader releases both lines; the bytes
clocked in stand in the buffer. -/
def Loader.stretched (held : HeldClock) (l : Loader) : Loader :=
  match held with
  | .freeing clocks => { l with stage := .waiting, freeing := clocks, sent := freeingActs clocks ++ [.release] }
  | .sending p => { l with stage := .waiting, sent := l.sent ++ actsBefore p ++ [.release] }
  | .reading got =>
    { l with stage := .waiting, buffer := got ++ l.buffer.drop got.length
             sent := l.sent ++ actsThrough .readAddress ++ readActs got.length ++ [.release] }

/-- R199: the image is rejected: OFF, CONFIG raised. -/
def reject (s : State) : State :=
  raise .config (s.setLoader { s.loader with phase := .off, stage := .finished })

/-- R134, R154, R200: the image is accepted: LISTEN, the settings in force, DISARMED, the routes applied. -/
def accept (c : Settings) (s : State) : State :=
  applyRoutes (enterDisarmed ((s.setLoader
    { s.loader with phase := .listen, stage := .finished, listenQuiet := 0 }).setSettings (some c)))

/-- R194, R196–R200: an attempt runs to its stop condition, and its buffer is judged. -/
def imageJudged (image : List Byte) (s : State) : State :=
  let s := s.setLoader { s.loader with buffer := image, sent := s.loader.sent ++ transactionActs }
  match judgeImage image with
  | none => reject s
  | some c => accept c s

/-- R195: the end of the wait: a retry, or the rejection after the fourth attempt. -/
def waitEnded (sdaLowClocks : Nat) (s : State) : State :=
  if s.loader.attempts < Config.maxRetries then
    s.setLoader ({ s.loader with attempts := s.loader.attempts + 1 }.beginAttempt sdaLowClocks)
  else reject s

/-- The loader drives its lines in an attempt alone; past it they are released to their pull-ups (R194, R203). -/
def Loader.drivesLines (l : Loader) : Bool := decide (l.stage = .attempting)

/-! ## The commands -/

/-- RESET (R11, R37, R52, R74, R92, R118, R132, R151, R167, R180, R192, R203): every block at its reset values. The
line is outside the part: activity on it goes on, and what was heard in part brings no verdict (R38). -/
def execReset (s : State) : Result :=
  .next { State.reset with line := { busy := s.line.busy, abandoned := s.line.busy }, pending := s.pending }

/-- RESET_RELEASE (R151, R194): the attempt count 0, the first attempt, the PWM timer's first period. -/
def execResetRelease (sdaLowClocks : Nat) (s : State) : Result :=
  .next (if s.resetLow then
      ((s.setResetLow false).setLoader ({ s.loader with attempts := 0 }.beginAttempt sdaLowClocks)).setDrive
        { s.drive with pwmTimer := some 0 }
    else s)

/-- ATTEMPT_COMPLETE (R196), in an attempt that has clocked in 256 bytes. -/
def execAttemptComplete (image : List Byte) (s : State) : Result :=
  .next (if s.loader.stage = .attempting ∧ image.length = Config.imageBytes then imageJudged image s else s)

/-- ATTEMPT_FAILURE (R194), in an attempt. -/
def execAttemptFailure (cause : AttemptFault) (s : State) : Result :=
  .next (if s.loader.stage = .attempting then s.setLoader (s.loader.fail cause) else s)

/-- CLOCK_STRETCH_TIMEOUT (R194), in an attempt. -/
def execClockStretchTimeout (held : HeldClock) (s : State) : Result :=
  .next (if s.loader.stage = .attempting ∧ s.loader.canHold held then s.setLoader (s.loader.stretched held) else s)

/-- RETRY_WAIT_END (R195). -/
def execRetryWaitEnd (sdaLowClocks : Nat) (s : State) : Result :=
  .next (if s.loader.stage = .waiting then waitEnded sdaLowClocks s else s)

end Sys2Proof.Machine
end

