-- ==== Sys2Proof/Machine/Dispatch.lean ====
section
/-! DEFINITION. The dispatch of a command to its meaning, one arm per constructor of Instr. -/

namespace Sys2Proof.Machine

def exec (i : Instr) (s : State) : Host.Outcome State Fault Refusal :=
  match i with
  | .reset => Sys2Proof.Machine.execReset s
  | .resetRelease n => Sys2Proof.Machine.execResetRelease n s
  | .attemptComplete image => Sys2Proof.Machine.execAttemptComplete image s
  | .attemptFailure cause => Sys2Proof.Machine.execAttemptFailure cause s
  | .clockStretchTimeout held => Sys2Proof.Machine.execClockStretchTimeout held s
  | .retryWaitEnd n => Sys2Proof.Machine.execRetryWaitEnd n s
  | .quietLimit => Sys2Proof.Machine.execQuietLimit s
  | .lineBusy dt => Sys2Proof.Machine.execLineBusy dt s
  | .frameEnd dt heard place order => Sys2Proof.Machine.execFrameEnd dt heard place order s
  | .gapEnd dt => Sys2Proof.Machine.execGapEnd dt s
  | .passComplete dt => Sys2Proof.Machine.execPassComplete dt s
  | .slotBoundary dt slot => Sys2Proof.Machine.execSlotBoundary dt slot s
  | .collision dt => Sys2Proof.Machine.execCollision dt s
  | .jamMarkEnd dt => Sys2Proof.Machine.execJamMarkEnd dt s
  | .consecutiveCollisionLimit => Sys2Proof.Machine.execConsecutiveCollisionLimit s
  | .tick order => Sys2Proof.Machine.execTick order s
  | .lockWindowExpiry => Sys2Proof.Machine.execLockWindowExpiry s
  | .rosterExpiry station => Sys2Proof.Machine.execRosterExpiry station s
  | .noiseLeak => Sys2Proof.Machine.execNoiseLeak s
  | .noiseBucketFull => Sys2Proof.Machine.execNoiseBucketFull s
  | .beatDue => Sys2Proof.Machine.execBeatDue s
  | .publishSample entry => Sys2Proof.Machine.execPublishSample entry s
  | .burstComplete entry => Sys2Proof.Machine.execBurstComplete entry s
  | .saturationRunLimit => Sys2Proof.Machine.execSaturationRunLimit s
  | .testQuietTimeout => Sys2Proof.Machine.execTestQuietTimeout s
  | .exchangeComplete dt word => Sys2Proof.Machine.execExchangeComplete dt word s
  | .failureRunLimit => Sys2Proof.Machine.execFailureRunLimit s
  | .exchangeRestart dt => Sys2Proof.Machine.execExchangeRestart dt s
  | .encoderAcceptance dt first second => Sys2Proof.Machine.execEncoderAcceptance dt first second s
  | .stopLineAssertion dt => Sys2Proof.Machine.execStopLineAssertion dt s
  | .stopLineRelease dt => Sys2Proof.Machine.execStopLineRelease dt s
  | .drvAttnAssertion dt => Sys2Proof.Machine.execDrvAttnAssertion dt s
  | .drvAttnRelease dt => Sys2Proof.Machine.execDrvAttnRelease dt s
  | .fallingEdge dt samples => Sys2Proof.Machine.execFallingEdge dt samples s
  | .pwmPeriodStart dt => Sys2Proof.Machine.execPwmPeriodStart dt s
  | .passPulseEnd dt => Sys2Proof.Machine.execPassPulseEnd dt s
  | .tagRecord sender record => Sys2Proof.Machine.execTagRecord sender record s
  | .noteRecord sender record => Sys2Proof.Machine.execNoteRecord sender record s
  | .testBlock sender block => Sys2Proof.Machine.execTestBlock sender block s
  | .arm => Sys2Proof.Machine.execArm s
  | .disarm => Sys2Proof.Machine.execDisarm s
  | .clear => Sys2Proof.Machine.execClear s
  | .query => Sys2Proof.Machine.execQuery s
  | .testStart sender count origin => Sys2Proof.Machine.execTestStart sender count origin s
  | .testStop sender => Sys2Proof.Machine.execTestStop sender s
  | .requestInputLevelAcceptance dt first second => Sys2Proof.Machine.execRequestInputLevelAcceptance dt first second s
  | .onTimeEnd dt => Sys2Proof.Machine.execOnTimeEnd dt s

end Sys2Proof.Machine
end

