-- ==== Sys2Proof/Safety.lean ====
section
/-! DEFINITION. What the manual says holds of the part at every instant, as properties of a state: the invariants that
the statements take as premises and conclusions. -/

namespace Sys2Proof.Machine

/-- The phase and the blocks that follow it (R9, R22, R36, R133, R134, R193, R200, R203): the settings stand from
acceptance on, the loader is at work in LOAD alone and begins at reset release, the clock runs in RUN alone and reads
0 elsewhere, the drive is OFF before acceptance and after a rejection, and the bus controller is SILENT until RUN. -/
abbrev State.PhasesAgree (s : State) : Prop :=
  (s.settings = none ↔ s.loader.phase = .load ∨ s.loader.phase = .off) ∧
  (s.loader.stage = .finished ↔ s.loader.phase ≠ .load) ∧
  (s.resetLow = true ↔ s.loader.stage = .idle) ∧
  (s.time.state = .stopped ↔ s.loader.phase ≠ .run) ∧
  (s.time.state = .stopped → s.time.clock = 0) ∧
  (s.drive.state = .off ↔ s.loader.phase = .load ∨ s.loader.phase = .off) ∧
  (s.bus.tx = .silent ↔ s.loader.phase ≠ .run)

/-- R155, R156: the FAULT pin is low while a flag is set, and the station pulls the stop line exactly while a
STOP-routed flag is set. -/
abbrev State.FaultPinsFollow (s : State) : Prop :=
  (s.fault.faultPin = true ↔ s.fault.flags = 0) ∧
  (s.fault.stopPull = true ↔ s.fault.flags &&& s.stopRoutes ≠ 0)

/-- The three note states of section 9.3: none, pending and in flight. -/
abbrev FaultUnit.NoteStateLegal (u : FaultUnit) : Prop :=
  (u.notePending = false → u.newlyRaised = 0 ∧ u.noteInFlight = false) ∧
  (u.notePending = true → u.newlyRaised ≠ 0) ∧
  (u.noteInFlight = false → u.following = 0)

/-- R10, R42: TWIN is set in a MUTED station, and a station whose TWIN is set is SILENT or MUTED. -/
abbrev State.TwinSilences (s : State) : Prop :=
  (s.bus.tx = .muted → hasFlag s.fault.flags .twin = true) ∧
  (hasFlag s.fault.flags .twin = true → s.bus.tx = .silent ∨ s.bus.tx = .muted)

/-- R146: DRV_EN is high exactly in ACTIVE and HOLD; in the other drive states the outputs, the duty and the direction
in force are low. -/
abbrev DriveUnit.OutputsFollow (d : DriveUnit) : Prop :=
  (d.drvEn = true ↔ d.state = .active ∨ d.state = .hold) ∧
  (d.state = .active ∨ d.state = .hold ∨
    (d.duty = 0 ∧ d.direction = false ∧ d.drvPwm = false ∧ d.drvDir = false))

/-- R122: outside an exchange RATE_CS is high and RATE_SCLK low; RATE_MOSI, which sends zeros alone, is low. -/
abbrev Measurement.PortFollows (m : Measurement) : Prop :=
  (m.rateCs = false ↔ m.exchange = .exchanging) ∧ (m.rateSclk = .running ↔ m.exchange = .exchanging) ∧
  m.rateMosi = false

/-- R115: the integral is 0 in OFF and DISARMED. -/
abbrev State.IntegralClearedWhenIdle (s : State) : Prop :=
  s.drive.state = .off ∨ s.drive.state = .disarmed → s.mix.integral = 0

/-- The bus controller's counts lie in their ranges (R16–R18). -/
abbrev BusController.CountsInRange (b : BusController) : Prop :=
  b.consecutive < Config.collisionLimit ∧ b.collisionTotal ≤ Config.count16 ∧ b.quietWheels ≤ Config.backoffPasses ∧
  (b.tx = .backoff → b.quietWheels < Config.backoffPasses)

/-- The time unit's counts lie in their ranges (R27, R29, R32). -/
abbrev TimeUnit.CountsInRange (t : TimeUnit) : Prop :=
  t.lockTimer ≤ Config.lockWindow ∧ t.skipped ≤ Config.count16 ∧ t.laggards ≤ Config.count16

/-- The counts of the reception unit and of every roster record lie in their ranges (R40, R41, R47). -/
abbrev Reception.CountsInRange (r : Reception) : Prop :=
  r.noiseBucket ≤ Config.bucketFull ∧ r.leakCount < Config.leakTicks ∧ r.corrupted ≤ Config.count16 ∧
  ∀ j, (r.roster.get j).missed ≤ Config.count8

/-- The test unit's counts lie in their ranges (R181, R189, R190). -/
abbrev TestUnit.CountsInRange (t : TestUnit) : Prop :=
  1 ≤ t.index ∧ t.index ≤ Config.maxTestIndex ∧ t.quiet ≤ Config.testQuietLimit ∧ t.errors ≤ Config.count16 ∧
  t.owed ≤ Config.count8

/-- The publisher's beat timer is at most the beat interval, and each accumulator below its step; both are 0 before
acceptance (R54, R55, R71, R74). -/
abbrev State.PublisherInRange (s : State) : Prop :=
  match s.settings with
  | none => s.pub.beatTimer = 0 ∧ ∀ i, (s.pub.entries.get i).acc = 0
  | some c => s.pub.beatTimer ≤ c.beatInterval ∧
      ∀ i e, c.entryAt i = some e → (s.pub.entries.get i).acc < e.step

/-- The other counts lie in their ranges (R70, R111, R127, R179, R195, R201 and those above). -/
abbrev State.CountsInRange (s : State) : Prop :=
  s.bus.CountsInRange ∧ s.time.CountsInRange ∧ s.rx.CountsInRange ∧ s.test.CountsInRange ∧
  s.pub.coalesces ≤ Config.count16 ∧ s.mix.satRun ≤ Config.count8 ∧ s.meas.failureRun ≤ Config.count8 ∧
  s.req.refused ≤ Config.count8 ∧ s.loader.attempts ≤ Config.maxRetries ∧
  s.loader.listenQuiet ≤ Config.quietLimit

/-- A slot of the listen table as R76 and R83 allow it, its stamps' order apart: at most 8 samples, at least one in LIVE
and AGED, none in CLASH, and a publisher where there is a sample. -/
abbrev Slot.Legal (slot : Slot) : Prop :=
  slot.ring.length ≤ Config.ringSize ∧ (slot.ring ≠ [] → slot.publisher ≠ none) ∧
  (slot.state = .clash → slot.ring = []) ∧ (slot.state = .live ∨ slot.state = .aged → slot.ring ≠ []) ∧
  slot.late ≤ Config.count16 ∧ slot.future ≤ Config.count16

/-- R83: each stamp of the ring is later than the one before it. -/
abbrev Slot.Rising (slot : Slot) : Prop := slot.ring.IsChain fun a b => later b.stamp a.stamp = true

/-- R81: no sample of `s` is later than the span time plus the tolerance of `t`. -/
abbrev State.NoneFutureAt (s t : State) : Prop :=
  ∀ c, t.settings = some c → ∀ k, ∀ x ∈ (s.listen.get k).ring, later x.stamp (t.futureBound c) = false

/-- R81, R83: the stamps of every ring rise, and none is future. -/
abbrev State.RingsRise (s : State) : Prop := (∀ k, (s.listen.get k).Rising) ∧ s.NoneFutureAt s

/-- Every slot is legal. -/
abbrev State.SlotsLegal (s : State) : Prop := ∀ k, (s.listen.get k).Legal

/-- R61: no tag has two entries in the outbox, and each entry's tag is that of an enabled publish entry. -/
abbrev State.OutboxLegal (s : State) : Prop :=
  (s.pub.outbox.map (·.tag)).Nodup ∧
  ∀ e ∈ s.pub.outbox, ∃ c i p, s.settings = some c ∧ c.entryAt i = some p ∧ p.tag = e.tag

/-- R171: the pending list holds at most one request per input. -/
abbrev RequestUnit.OnePerInput (r : RequestUnit) : Prop := (r.list.map (·.input)).Nodup

/-- R30, section 3.5: no frame changes the roster record of this station's own number, and none is present before
acceptance. -/
abbrev State.OwnRecordUntouched (s : State) : Prop :=
  match s.settings with
  | none => s.rx.roster = Vector.replicate 32 StationRecord.reset
  | some c => s.rx.recordOf c.station = StationRecord.reset

/-- The ranges of R197 for a publish entry within the count. -/
abbrev PublishEntry.InRange (e : PublishEntry) : Prop :=
  4 ≤ e.interval ∧ e.interval ≤ 1024 ∧ (e.burst = 1 ∨ e.burst = 2 ∨ e.burst = 4) ∧ e.startPhase < e.interval

/-- The ranges of R197. -/
abbrev Settings.InRange (c : Settings) : Prop :=
  (7 ≤ c.period ∧ c.period ≤ 11) ∧ (1 ≤ c.tolerance ∧ c.tolerance ≤ 31) ∧ c.alignDelay ≤ 4 ∧
  (1 ≤ c.ageLimit ∧ c.ageLimit ≤ 64) ∧ (8 ≤ c.rosterTimeout ∧ c.rosterTimeout ≤ 255) ∧
  (2 ≤ c.beatInterval ∧ c.beatInterval ≤ 64) ∧ (2 ≤ c.escalateMark ∧ c.escalateMark ≤ 8) ∧
  c.publish.length ≤ 8 ∧ (∀ e ∈ c.publish, e.InRange) ∧ c.mixRows.length = 16 ∧
  (1 ≤ c.effortLimit ∧ c.effortLimit ≤ 32767) ∧ c.integralLimit ≤ 32767 ∧ c.integralShift ≤ 8 ∧
  (-32768 ≤ c.lowLimit ∧ c.lowLimit ≤ 0) ∧ (0 ≤ c.highLimit ∧ c.highLimit ≤ 32767) ∧ c.saturationCount ≤ 255

/-- R198, check by check. -/
abbrev Settings.IsConsistent (c : Settings) : Prop :=
  c.publishTags.Nodup ∧ c.slotTags.Nodup ∧ (∀ t ∈ c.publishTags, t ∉ c.slotTags) ∧
  (∀ row k, some row ∈ c.mixRows → row.source = .slot k → row.group ≠ 0 ∧ (c.slots.get k).enabled = true) ∧
  (∀ e ∈ c.publish, e.enabled = true → e.burst = 1 ∨ e.interval % (4 * e.burst) = 0) ∧ c.relaxMark < c.escalateMark

/-! ## The image, byte by byte (section 13.4) -/

/-- The code of a publish source. -/
def PublishSource.imageCode : PublishSource → Nat
  | .position => 0
  | .rate => 1
  | .effort => 2
  | .integral => 3

/-- The code of a mix source. -/
def MixSource.imageCode : MixSource → Nat
  | .position => 1
  | .rate => 2
  | .integral => 3
  | .priorEffort => 4
  | .bias => 5
  | .slot k => 16 + k.val

/-- The code of a use. -/
def MixUse.imageCode : MixUse → Nat
  | .level => 0
  | .slope => 1

/-- The code of a route. -/
def MixRoute.imageCode : MixRoute → Nat
  | .effort => 0
  | .integral => 1
  | .both => 2

/-- The code of a request input's kind. -/
def inputCode : Option RequestKind → Nat
  | none => 0
  | some k => k.code.toNat

/-- Byte `i` of the image as a number. -/
abbrev byteAt (img : List Byte) (i : Nat) : Nat := (imageByte img i).toNat

/-- The 16-bit field at byte `i` of the image as a number. -/
abbrev halfAt (img : List Byte) (i : Nat) : Nat := (imageHalf img i).toNat

/-- The range of a publish entry at byte `a`. -/
abbrev EntryInRange (img : List Byte) (a : Nat) : Prop :=
  byteAt img (a + 1) ≤ 3 ∧ 4 ≤ halfAt img (a + 2) ∧ halfAt img (a + 2) ≤ 1024 ∧
  (byteAt img (a + 4) = 1 ∨ byteAt img (a + 4) = 2 ∨ byteAt img (a + 4) = 4) ∧
  halfAt img (a + 5) < halfAt img (a + 2)

/-- The range of a mix row at byte `a`; an unused one is not checked. -/
abbrev RowInRange (img : List Byte) (a : Nat) : Prop :=
  byteAt img a = 0 ∨ (byteAt img a ≤ 5 ∨ 16 ≤ byteAt img a ∧ byteAt img a ≤ 27) ∧ byteAt img (a + 1) ≤ 1 ∧
    byteAt img (a + 4) ≤ 2 ∧ byteAt img (a + 5) ≤ 3

/-- The range of a request input at byte `a`; its sender station is checked for the test kinds alone. -/
abbrev InputInRange (img : List Byte) (a : Nat) : Prop :=
  byteAt img a ≤ 6 ∧ (5 ≤ byteAt img a → byteAt img (a + 5) ≤ 31)

/-- R197, R206: every field of the image that is checked lies in its range. -/
abbrev ImageInRange (img : List Byte) : Prop :=
  (byteAt img 2 ≤ 31 ∧ (7 ≤ byteAt img 3 ∧ byteAt img 3 ≤ 11) ∧ (1 ≤ byteAt img 4 ∧ byteAt img 4 ≤ 31) ∧
    byteAt img 5 ≤ 4 ∧ (1 ≤ byteAt img 6 ∧ byteAt img 6 ≤ 64) ∧ 8 ≤ byteAt img 7 ∧
    (2 ≤ byteAt img 8 ∧ byteAt img 8 ≤ 64) ∧ (2 ≤ byteAt img 9 ∧ byteAt img 9 ≤ 8) ∧ byteAt img 10 ≤ 7 ∧
    byteAt img 11 ≤ 1 ∧ byteAt img 20 ≤ 8) ∧
  (∀ n < byteAt img 20, EntryInRange img (21 + 8 * n)) ∧ (∀ r < 16, RowInRange img (109 + 6 * r)) ∧
  ((1 ≤ halfAt img 205 ∧ halfAt img 205 ≤ 32767) ∧ halfAt img 207 ≤ 32767 ∧ byteAt img 209 ≤ 8 ∧
    (imageHalf img 210).toInt ≤ 0 ∧ 0 ≤ (imageHalf img 212).toInt) ∧
  ∀ i < 4, InputInRange img (219 + 8 * i)

/-- The publish entry that the bytes at `a` name. -/
abbrev EntryGiven (img : List Byte) (a : Nat) (e : PublishEntry) : Prop :=
  e.tag = imageByte img a ∧ e.source.imageCode = byteAt img (a + 1) ∧ e.interval = halfAt img (a + 2) ∧
  e.burst = byteAt img (a + 4) ∧ e.startPhase = halfAt img (a + 5) ∧ e.enabled = decide (byteAt img (a + 7) ≠ 0)

/-- The mix row, if it is used, that the bytes at `a` name. -/
abbrev RowGiven (img : List Byte) (a : Nat) : Option MixRow → Prop
  | none => byteAt img a = 0
  | some row => row.source.imageCode = byteAt img a ∧ row.use.imageCode = byteAt img (a + 1) ∧
      row.weight = imageHalf img (a + 2) ∧ row.route.imageCode = byteAt img (a + 4) ∧
      row.group.val = byteAt img (a + 5)

/-- The request input that the bytes at `a` name. -/
abbrev InputGiven (img : List Byte) (a : Nat) (x : InputSetting) : Prop :=
  inputCode x.kind = byteAt img a ∧ x.mask = imageWord img (a + 1) ∧
  x.sender = (imageByte img (a + 5)).truncate 5 ∧ x.count = imageHalf img (a + 6)

/-- Section 13.4, R206: the settings `c` are those that the image's bytes name, field by field. -/
abbrev ImageGives (img : List Byte) (c : Settings) : Prop :=
  (c.station.toNat = byteAt img 2 ∧ c.period = byteAt img 3 ∧ c.tolerance = byteAt img 4 ∧
    c.alignDelay = byteAt img 5 ∧ c.ageLimit = byteAt img 6 ∧ c.rosterTimeout = byteAt img 7 ∧
    c.beatInterval = byteAt img 8 ∧ c.escalateMark = byteAt img 9 ∧ c.relaxMark = byteAt img 10 ∧
    (c.stopAction = .coast ↔ byteAt img 11 = 1) ∧ c.watchMask = imageWord img 12 ∧
    c.effortLimit = halfAt img 205 ∧ c.integralLimit = halfAt img 207 ∧ c.integralShift = byteAt img 209 ∧
    c.lowLimit = (imageHalf img 210).toInt ∧ c.highLimit = (imageHalf img 212).toInt ∧
    c.encoderCentre = imageWord img 214 ∧ c.saturationCount = byteAt img 218) ∧
  (∀ f : Flag, hasFlag c.stopRoutes f = (decide (f ≠ .config) && (imageHalf img 16).getLsbD f.bit) ∧
    hasFlag c.noteRoutes f = (decide (f ≠ .config) && (imageHalf img 18).getLsbD f.bit)) ∧
  (c.publish.length = byteAt img 20 ∧
    ∀ (n : Nat) (e : PublishEntry), c.publish[n]? = some e → EntryGiven img (21 + 8 * n) e) ∧
  (∀ k : Fin 12, c.slots.get k =
    { tag := imageByte img (85 + 2 * k.val), enabled := decide (byteAt img (86 + 2 * k.val) ≠ 0) }) ∧
  (c.mixRows.length = 16 ∧
    ∀ (r : Nat) (x : Option MixRow), c.mixRows[r]? = some x → RowGiven img (109 + 6 * r) x) ∧
  ∀ i : Fin 4, InputGiven img (219 + 8 * i.val) (c.inputs.get i)

/-! ## Settings and limits -/

/-- The settings in force, if any, lie in the ranges of R197 and are consistent under R198. -/
abbrev State.SettingsLegal (s : State) : Prop :=
  ∀ c, s.settings = some c → c.InRange ∧ c.consistent = true

/-- A value lies within ±limit. -/
abbrev within (limit x : Int) : Prop := -limit ≤ x ∧ x ≤ limit

/-- R112, R114, R147: the effort, the prior effort, a pending setting and the integral stay within the limits of the
image, all 0 before acceptance, and the duty in force within the steps of a period. -/
abbrev State.EffortBounded (s : State) : Prop :=
  (match s.settings with
    | none => s.mix.effort = 0 ∧ s.mix.prior = 0 ∧ s.mix.integral = 0 ∧ s.drive.pendingSetting = none
    | some c => within c.effortLimit s.mix.effort ∧ within c.effortLimit s.mix.prior ∧
        within (c.integralLimit * 1024) s.mix.integral ∧
        ∀ x, s.drive.pendingSetting = some x → within c.effortLimit x.effort) ∧
  s.drive.duty ≤ Config.fullDuty

end Sys2Proof.Machine
end

