-- ==== Sys2Proof/Certificates/Slice0/Obligations.lean ====
section
/-! DEFINITION. The statements for the provers. A result is written as the next state itself: `{ s with … }` names
every block that changes, so every block it does not name stands. `s.advance dt` is `s` with its timers moved on by dt
microseconds (O9), `raise f s` is `s` with flag f raised (O8), and `t.countErrors n` counts n test errors (O46). -/

open Sys2Proof Sys2Proof.Machine

/-! ## The machine as a whole -/

/-- Step runs the front command on the state with the queue's rest; on an empty queue the block idles (log entry 4). -/
def Obligations.StepRunsTheFrontCommand : Prop :=
  (∀ (c : Instr) (rest : List Instr) (s : State), s.pending = c :: rest → step s = exec c { s with pending := rest }) ∧
  ∀ s : State, s.pending = [] → step s = .next s

/-- Every command answers a next state, in every state, and leaves the queue (log entry 4). -/
def Obligations.EveryCommandCompletes : Prop :=
  ∀ (i : Instr) (s : State), ∃ t, exec i s = .next t ∧ t.pending = s.pending

/-- RESET puts every register at its reset value, RATE_SCLK and RATE_MOSI low among them (R132); the line and the queue
are outside the part (log entry 20), and what no reset table names has the model's values (log entry 25). -/
def Obligations.ResetRestoresEveryBlock : Prop :=
  ∀ s : State, exec .reset s = .next
    { resetLow := true, settings := none, line := { busy := s.line.busy, abandoned := s.line.busy }
      bus := { tx := .silent, classInForce := none, sequence := 0, copy := none, collided := false,
               driving := .released, consecutive := 0, collisionTotal := 0, passTickIndex := 0, position := 0,
               quietWheels := 0, wheel := .stopped }
      time := { clock := 0, state := .stopped, lockTimer := 0, skipped := 0, laggards := 0, lastTick := 0 }
      rx := { noiseBucket := 0, leakCount := 0, corrupted := 0, arrival := 0
              roster := Vector.replicate 32 { present := false, lastSequence := 0, lastHeard := 0, missed := 0,
                                              noteFlags := 0, periodMismatch := false } }
      pub := { entries := Vector.replicate 8 { acc := 0, gather := [] }, outbox := [], escalated := false,
               beatTimer := 0, beatDue := false, coalesces := 0 }
      listen := Vector.replicate 12 { publisher := none, state := .empty, ring := [], late := 0, future := 0 }
      mix := { integral := 0, effort := 0, prior := 0, history := none, mask := 7, satRun := 0, atHigh := false,
               atLow := false }
      meas := { encA := { prev := none, level := none }, encB := { prev := none, level := none }, count := 0,
                exchange := .idle, received := 0, countRef := none, lastRate := 0, failureRun := 0, snapCount := 0,
                snapRate := 0, rateCs := true, rateSclk := .low, rateMosi := false }
      drive := { state := .off, stop := { prev := none, asserted := false }, attn := { prev := none, asserted := false },
                 duty := 0, direction := false, pendingSetting := none, pwmTimer := none, drvEn := false,
                 drvPwm := false, drvDir := false }
      fault := { flags := 0, notePending := false, newlyRaised := 0, firstRaise := 0, noteInFlight := false,
                 following := 0, followingStamp := 0, stopPull := false, faultPin := true }
      req := { inputs := Vector.replicate 4 { prev := none, level := none }, list := [], statusPending := false,
               refused := 0, lastRefused := none }
      test := { state := .idle, sender := 0, frameCount := 0, index := 1, due := false, quiet := 0, errors := 0,
                owed := 0, pulse := .none, result := true, pass := true }
      loader := { phase := .load, attempts := 0, stage := .idle, freeing := 0, sent := [], buffer := [], listenQuiet := 0 }
      pending := s.pending }

/-- RESET_RELEASE begins the first attempt and the PWM timer; ATTEMPT_FAILURE ends an attempt with a stop condition and
CLOCK_STRETCH_TIMEOUT with the release of both lines, each in the wait; `sent` holds what the loader has done on its
lines, up to the byte that was not acknowledged or whose clock was held (R194; operands: log entry 19). Where RESET_N
is not low, no attempt is in progress or the clock cannot be held there, the state stands (log entry 5). -/
def Obligations.AttemptsBeginAndFail : Prop :=
  (∀ (n : Nat) (s : State), exec (.resetRelease n) s = .next (if s.resetLow then
      { s with
        resetLow := false
        loader := { s.loader with
          attempts := 0, freeing := min 9 n, stage := if 9 < n then .waiting else .attempting
          sent := List.replicate (min 9 n) .clock ++ (if 9 < n then [.stop] else []) }
        drive := { s.drive with pwmTimer := some 0 } }
    else s)) ∧
  ∀ s : State,
    let stands (l : Loader) : State := if s.loader.stage = .attempting then { s with loader := l } else s
    let wait : Loader := { s.loader with stage := .waiting }
    let did (acts : List I2cAct) : List I2cAct := s.loader.sent ++ acts
    exec (.attemptFailure .sdaStuck) s = .next
      (stands { wait with freeing := 9, sent := List.replicate 9 .clock ++ [.stop] }) ∧
    exec (.attemptFailure (.noAck .writeAddress)) s = .next
      (stands { wait with sent := did [.start, .address 0x50 .write, .stop] }) ∧
    exec (.attemptFailure (.noAck .offset)) s = .next
      (stands { wait with sent := did [.start, .address 0x50 .write, .byte 0, .stop] }) ∧
    exec (.attemptFailure (.noAck .readAddress)) s = .next (stands { wait with
      sent := did [.start, .address 0x50 .write, .byte 0, .repeatedStart, .address 0x50 .read, .stop] }) ∧
    (∀ n, exec (.clockStretchTimeout (.freeing n)) s = .next (if n < s.loader.freeing then
        stands { wait with freeing := n, sent := List.replicate n .clock ++ [.release] }
      else s)) ∧
    exec (.clockStretchTimeout (.sending .writeAddress)) s = .next
      (stands { wait with sent := did [.start, .release] }) ∧
    exec (.clockStretchTimeout (.sending .offset)) s = .next
      (stands { wait with sent := did [.start, .address 0x50 .write, .release] }) ∧
    exec (.clockStretchTimeout (.sending .readAddress)) s = .next
      (stands { wait with sent := did [.start, .address 0x50 .write, .byte 0, .repeatedStart, .release] }) ∧
    ∀ got, exec (.clockStretchTimeout (.reading got)) s = .next (if got.length ≤ 256 then
        stands { wait with
          buffer := got ++ s.loader.buffer.drop got.length
          sent := did ([.start, .address 0x50 .write, .byte 0, .repeatedStart, .address 0x50 .read] ++
            (List.range got.length).map (fun i => .read (decide (i ≠ 255))) ++ [.release]) }
      else s)

/-- RETRY_WAIT_END begins a retry from step 1 while the attempt count is below 3, and rejects the image otherwise (R195,
R199; the operand n: log entry 19). Outside the wait the state stands (log entry 5). -/
def Obligations.WaitEndRetriesOrRejects : Prop :=
  ∀ (n : Nat) (s : State), exec (.retryWaitEnd n) s = .next
    (if s.loader.stage ≠ .waiting then s
    else if s.loader.attempts < 3 then
      { s with loader := { s.loader with
        attempts := s.loader.attempts + 1, freeing := min 9 n, stage := if 9 < n then .waiting else .attempting
        sent := List.replicate (min 9 n) .clock ++ (if 9 < n then [.stop] else []) } }
    else raise .config { s with loader := { s.loader with phase := .off, stage := .finished } })

/-- ATTEMPT_COMPLETE is the transaction of R194 run to its stop condition, every byte but the last acknowledged
(`sent`: log entry 19), and judges the buffer: a rejection enters OFF and raises CONFIG, an acceptance enters LISTEN
with the settings in force, DISARMED, and the routes acting on the flags already set (R134, R154, R194, R196, R199,
R200). Outside an attempt, or with a length other than 256, the state stands (log entry 5). -/
def Obligations.CompleteImageIsJudged : Prop :=
  ∀ (image : List Byte) (s : State),
    let sent := s.loader.sent ++ [.start, .address 0x50 .write, .byte 0, .repeatedStart, .address 0x50 .read] ++
      List.replicate 255 (.read true) ++ [.read false, .stop]
    exec (.attemptComplete image) s = .next
    (if s.loader.stage = .attempting ∧ image.length = 256 then
      match judgeImage image with
      | none => raise .config { s with
          loader := { s.loader with buffer := image, sent := sent, phase := .off, stage := .finished } }
      | some c =>
        { s with
          settings := some c
          loader := { s.loader with buffer := image, sent := sent, phase := .listen, stage := .finished, listenQuiet := 0 }
          drive := { s.drive with state := .disarmed, duty := 0, direction := false, pendingSetting := none,
                                  drvEn := false, drvPwm := false, drvDir := false }
          mix := { s.mix with integral := 0 }
          fault := { s.fault.joinNote (s.fault.flags &&& c.noteRoutes) s.now with
            faultPin := decide (s.fault.flags = 0), stopPull := decide (s.fault.flags &&& c.stopRoutes ≠ 0) } }
    else s)

/-- An image is accepted exactly when its mark and check are right, every checked field is in range and the settings
that its bytes name are consistent; the settings in force are those, field by field and table by table (R196–R198,
R206, section 13.4). -/
def Obligations.ImageIsAcceptedExactlyWhenRight : Prop :=
  ∀ img : List Byte,
    (∀ c, judgeImage img = some c →
      imageHalf img 0 = 0x4A16 ∧ crc16 (img.take 254) = imageHalf img 254 ∧ ImageInRange img ∧ ImageGives img c ∧
      c.IsConsistent ∧ c.InRange) ∧
    (imageHalf img 0 = 0x4A16 → crc16 (img.take 254) = imageHalf img 254 → ImageInRange img →
      ∃ c, ImageGives img c ∧ (c.IsConsistent → judgeImage img = some c) ∧
        (¬c.IsConsistent → judgeImage img = none))

/-! ## Flags and time -/

/-- A raise sets a clear flag, drives FAULT and STOP, and makes or joins the note; a set flag is left as it stands
(R152, R155–R157). `joinNote` is the same join for a set of flags (R154). -/
def Obligations.RaiseSetsFlagAndActsOnRoutes : Prop :=
  (∀ (f : Flag) (s : State), raise f s =
    if hasFlag s.fault.flags f then s
    else
      let routed := hasFlag s.noteRoutes f
      { s with fault :=
        { flags := s.fault.flags ||| f.single
          faultPin := false
          stopPull := decide ((s.fault.flags ||| f.single) &&& s.stopRoutes ≠ 0)
          notePending := s.fault.notePending || (routed && !s.fault.noteInFlight)
          noteInFlight := s.fault.noteInFlight
          newlyRaised :=
            if routed = true ∧ s.fault.noteInFlight = false then
              (if s.fault.notePending then s.fault.newlyRaised ||| f.single else f.single)
            else s.fault.newlyRaised
          firstRaise :=
            if routed = true ∧ s.fault.noteInFlight = false ∧ s.fault.notePending = false then s.now
            else s.fault.firstRaise
          following :=
            if routed = true ∧ s.fault.noteInFlight = true then s.fault.following ||| f.single else s.fault.following
          followingStamp :=
            if routed = true ∧ s.fault.noteInFlight = true ∧ s.fault.following = 0 then s.now
            else s.fault.followingStamp } }) ∧
  ∀ (u : FaultUnit) (rising : FlagSet) (now : Stamp), u.joinNote rising now =
    if rising = 0 then u
    else if u.noteInFlight then
      { u with following := u.following ||| rising
               followingStamp := if u.following = 0 then now else u.followingStamp }
    else if u.notePending then { u with newlyRaised := u.newlyRaised ||| rising }
    else { u with notePending := true, newlyRaised := rising, firstRaise := now }

/-- The passing of `us` microseconds moves a running span clock, the listen quiet timer on a quiet line in LISTEN up
to 2048, and the PWM timer in its period of 50; nothing else (R21, R147, R201; log entry 3). -/
def Obligations.PassingTimeMovesTheTimers : Prop :=
  ∀ (us : Nat) (s : State), s.advance us =
    { s with
      time := if s.time.state = .stopped then s.time
        else { s.time with clock := s.time.clock + BitVec.ofNat 32 us }
      loader := if s.loader.phase = .listen ∧ s.line.busy = false then
          { s.loader with listenQuiet := min 2048 (s.loader.listenQuiet + us) }
        else s.loader
      drive := { s.drive with pwmTimer := s.drive.pwmTimer.map fun t => (t + us) % 50 } }

/-! ## The bus -/

/-- LINE_BUSY ends the pass in progress, takes the arrival reading at the end of the preamble and sets the listen quiet
timer to 0, in RUN too (log entry 31); a line already busy stays so (R1, R5, R23, R201; log entries 13 and 20). -/
def Obligations.LineBusyEndsThePass : Prop :=
  ∀ (dt : Nat) (s : State), exec (.lineBusy dt) s = .next
    (if s.line.busy then s.advance dt
    else
      { s.advance dt with
        line := { busy := true, abandoned := s.resetLow }
        rx := { s.rx with arrival := if s.time.state = .stopped then 0 else s.time.clock + BitVec.ofNat 32 dt + 2 }
        loader := { s.loader with listenQuiet := 0 }
        bus := { s.bus with wheel := .stopped } })

/-- GAP_END and PASS_COMPLETE begin a wheel pass, taking the pass tick index and the position; a pass that completes in
BACKOFF counts, and the second makes the bus controller READY (R5, R6, R18). Outside the gap or a pass only time
passes (log entry 5), and PASS_COMPLETE is not held to the slots taken (log entry 17). -/
def Obligations.WheelPassesBegin : Prop :=
  ∀ (dt : Nat) (c : Settings) (s : State), s.settings = some c →
    let u := s.advance dt
    let index := BitVec.ofNat 5 (u.now.toNat / 2 ^ c.period)
    let runs := s.bus.tx = .ready ∨ s.bus.tx = .backoff
    exec (.gapEnd dt) s = .next (if s.bus.wheel = .gap ∧ runs ∧ s.line.busy = false then
        { u with bus := { s.bus with passTickIndex := index, position := c.station - index, wheel := .pass 0 } }
      else u) ∧
    exec (.passComplete dt) s = .next
      (if s.bus.wheel ≠ .stopped ∧ s.bus.wheel ≠ .gap ∧ runs ∧ s.line.busy = false then
        { u with bus :=
          { s.bus with
            passTickIndex := index, position := c.station - index, wheel := .pass 0
            quietWheels := if s.bus.tx = .backoff then s.bus.quietWheels + 1 else s.bus.quietWheels
            tx := if s.bus.tx = .backoff ∧ s.bus.quietWheels + 1 < 2 then .backoff else .ready } }
      else u)

/-- SLOT_BOUNDARY starts a frame where the bus controller is READY and the slot is that of the current class: the copy
is captured, the sequence number advances, the beat timer is reloaded and what a DATA frame carries goes in flight; the
arrival reading, the listen quiet timer and the following stamp stand (log entries 29, 31 and 32). In another slot
still ahead in the pass it starts nothing (R7, R8, R12, R65, R71, R158). On a busy line, outside a pass, in a slot
behind or above 95 and before acceptance only time passes (R8; log entries 5 and 17). -/
def Obligations.SlotBoundaryStartsTheFrame : Prop :=
  (∀ (dt slot : Nat) (s : State), s.settings = none → exec (.slotBoundary dt slot) s = .next (s.advance dt)) ∧
  ∀ (dt slot : Nat) (c : Settings) (s : State), s.settings = some c →
    let u := s.advance dt
    let ahead : Prop := ∃ next, next ≤ slot ∧ s.bus.wheel = .pass next
    let nothing : State := { u with bus := { s.bus with wheel := .pass (slot + 1) } }
    let start (k : BusClass) : State :=
      { u with
        line := { busy := true, abandoned := false }
        bus := { s.bus with
          tx := .sending, classInForce := some k, copy := some (u.frameCopy c k), sequence := s.bus.sequence + 1
          collided := false, driving := .frame, wheel := .stopped }
        pub := { s.pub with
          beatTimer := 0, beatDue := false
          outbox := if u.frameKind = .data then markTaken (u.entriesTaken c) s.pub.outbox else s.pub.outbox }
        fault := if u.frameKind = .data ∧ s.fault.notePending = true then
            { s.fault with noteInFlight := true, following := 0 }
          else s.fault }
    (¬(ahead ∧ slot < 96 ∧ s.line.busy = false) → exec (.slotBoundary dt slot) s = .next u) ∧
    (ahead → slot < 96 → s.line.busy = false → exec (.slotBoundary dt slot) s = .next
      (if s.bus.tx = .ready then
        if s.fault.notePending = true then
          (if slot = s.bus.position.toNat then start .fault else nothing)
        else if s.pub.escalated = true ∨ s.req.list ≠ [] then
          (if slot = 32 + s.bus.position.toNat then start .demand else nothing)
        else if s.pub.outbox ≠ [] ∨ s.req.statusPending = true ∨ s.test.due = true ∨ s.pub.beatDue = true then
          (if slot = 64 + s.bus.position.toNat then start .routine else nothing)
        else nothing
      else nothing))

/-- The copy captured at a frame start: its header fields, and a DATA frame's items in the steps of R13, within 64
payload bytes, the entries a prefix of the outbox that no further entry fits behind (R3, R12–R14, R65). -/
def Obligations.FrameCopyHoldsWhatFits : Prop :=
  ∀ (c : Settings) (k : BusClass) (s : State),
    s.req.OnePerInput →
    let f := s.frameCopy c k
    f.cls = k ∧ f.station = c.station ∧ f.period = c.period ∧ f.sequence = s.bus.sequence ∧ f.stamp = s.now ∧
    f.payload.length ≤ 64 ∧
    (f.kind = .test ↔ s.test.due = true ∧ s.fault.notePending = false ∧ s.pub.escalated = false ∧ s.req.list = []) ∧
    (f.kind = .test → f.test = some s.test.block ∧ f.note = none ∧ f.requests = [] ∧ f.status = none ∧ f.tags = []) ∧
    (f.kind = .data → f.test = none ∧ f.requests = s.req.list ∧
      f.note = (if s.fault.notePending then
        some { newlyRaised := s.fault.newlyRaised, allSet := s.fault.flags, firstRaise := s.fault.firstRaise }
        else none) ∧
      f.status = (if s.req.statusPending = true ∧
          (if s.fault.notePending then 10 else 0) + 11 * s.req.list.length + 40 ≤ 64 then s.capturedStatus c
        else none) ∧
      ∃ n, n ≤ s.pub.outbox.length ∧
        f.tags = (s.pub.outbox.take n).map (fun e =>
          { tag := e.tag, spacing := e.spacing, newest := e.newest, values := e.values }) ∧
        ∀ e, s.pub.outbox[n]? = some e → 64 < f.payload.length + (9 + 2 * e.values.length))

/-- The status record reads every field from the block that owns it (R178, R84), and its 40 bytes are those of section
13.2; none is captured in OFF or STOPPED (log entry 21). -/
def Obligations.StatusRecordReadsEveryBlock : Prop :=
  (∀ r : StatusRecord, let b := r.encode
    b.length = 40 ∧ imageByte b 0 = 4 ∧ imageByte b 1 = 40 ∧ (imageByte b 2).toNat = r.station.toNat ∧
    imageByte b 3 = r.drive ∧ imageByte b 4 = r.time ∧ (imageHalf b 5).toNat = r.flags.toNat ∧
    imageHalf b 7 = r.effort ∧ imageHalf b 9 = r.integral ∧ imageHalf b 11 = r.position ∧ imageHalf b 13 = r.rate ∧
    (imageByte b 15).toNat = r.groupMask.toNat ∧
    (∀ k : Fin 12, (imageByte b (16 + k.val / 4)).toNat / 4 ^ (3 - k.val % 4) % 4 = match r.slots.get k with
      | .empty => 0
      | .live => 1
      | .aged => 2
      | .clash => 3) ∧
    imageWord b 19 = r.present ∧ imageByte b 23 = r.test ∧ imageHalf b 24 = r.testErrors ∧
    imageHalf b 26 = r.collisions ∧ imageHalf b 28 = r.corrupted ∧ imageHalf b 30 = r.skipped ∧
    imageHalf b 32 = r.coalesces ∧ imageHalf b 34 = r.lateSamples ∧ imageHalf b 36 = r.laggards ∧
    imageByte b 38 = r.refused ∧ imageByte b 39 = r.lastRefused) ∧
  ∀ (c : Settings) (s : State),
    (s.drive.state = .off ∨ s.time.state = .stopped → s.capturedStatus c = none) ∧
    (s.drive.state ≠ .off → s.time.state ≠ .stopped → ∃ r, s.capturedStatus c = some r ∧
      r.station = c.station ∧
      r.drive = (match s.drive.state with
        | .active => 1
        | .hold => 2
        | .coast => 3
        | .disarmed | .off => 0) ∧
      r.time = (match s.time.state with
        | .locked => 1
        | .adrift => 2
        | .alone | .stopped => 0) ∧
      r.flags = s.fault.flags ∧ r.effort = BitVec.ofInt 16 s.mix.effort ∧
      r.integral = BitVec.ofInt 16 (s.mix.integral.tdiv 1024) ∧
      (s.mix.history = none → r.position = 0 ∧ r.rate = 0) ∧
      (∀ h, s.mix.history = some h → r.position = BitVec.ofInt 16 h.position ∧ r.rate = BitVec.ofInt 16 h.rate) ∧
      r.groupMask = s.mix.mask ∧ (∀ k : Fin 12, r.slots.get k = (s.listen.get k).state) ∧
      (∀ j : Fin 32, r.present.getLsbD j.val = (s.rx.roster.get j).present) ∧
      r.test = (match s.test.state with
        | .idle => 0
        | .sending => 1
        | .checking => 2
        | .done => 3) ∧
      r.testErrors = BitVec.ofNat 16 s.test.errors ∧ r.collisions = BitVec.ofNat 16 s.bus.collisionTotal ∧
      r.corrupted = BitVec.ofNat 16 s.rx.corrupted ∧ r.skipped = BitVec.ofNat 16 s.time.skipped ∧
      r.coalesces = BitVec.ofNat 16 s.pub.coalesces ∧ r.laggards = BitVec.ofNat 16 s.time.laggards ∧
      r.lateSamples = BitVec.ofNat 16 (min 65535 ((List.finRange 12).map fun k =>
        if (c.slots.get k).enabled then (s.listen.get k).late + (s.listen.get k).future else 0).sum) ∧
      r.refused = BitVec.ofNat 8 s.req.refused ∧
      r.lastRefused = (match s.req.lastRefused with
        | none => 0
        | some .arm => 1
        | some .testStart => 5))

/-- COLLISION makes the sender drive a jam mark, and JAM_MARK_END releases the line; it stays SENDING (R15). Where the
station is not SENDING, the frame has already collided or no jam mark is driven, only time passes (log entry 5). -/
def Obligations.CollisionDrivesAJamMark : Prop :=
  ∀ (dt : Nat) (s : State),
    exec (.collision dt) s = .next (if s.bus.tx = .sending ∧ s.bus.collided = false then
        { s.advance dt with bus := { s.bus with collided := true, driving := .jam } }
      else s.advance dt) ∧
    exec (.jamMarkEnd dt) s = .next (if s.bus.driving = .jam then
        { s.advance dt with bus := { s.bus with driving := .released } }
      else s.advance dt)

/-- A collided end counts, and every item the frame carried stays pending; the fourth in a row raises CONTENTION and
enters BACKOFF (R16, R17, R67, R161, R186), as CONSECUTIVE_COLLISION_LIMIT does where the count stands at 4 (log entry
10). The copy and the class in force are given up (log entry 16), and the following stamp stands (log entry 32). -/
def Obligations.CollidedEndKeepsEveryItem : Prop :=
  (∀ (dt : Nat) (heard : Heard) (place : JumpTick) (order : TickOrder) (c : Settings) (f : FrameCopy) (s : State),
    s.settings = some c → s.bus.tx = .sending → s.bus.copy = some f → s.bus.collided = true →
    let u := s.advance dt
    let limit := 4 ≤ s.bus.consecutive + 1
    let t : State :=
      { u with
        line := { busy := false, abandoned := false }
        bus := { s.bus with
          tx := if limit then .backoff else .ready, classInForce := none, copy := none, collided := false
          driving := .released, wheel := .gap
          consecutive := if limit then 0 else s.bus.consecutive + 1
          collisionTotal := min 65535 (s.bus.collisionTotal + 1)
          quietWheels := if limit then 0 else s.bus.quietWheels }
        fault := if f.note.isSome then
            { s.fault with newlyRaised := s.fault.newlyRaised ||| s.fault.following, following := 0
                           noteInFlight := false }
          else s.fault
        pub := { s.pub with outbox := s.pub.outbox.map fun e => { e with inFlight := false, revised := false } }
        test := if f.kind = .test ∧ s.test.state = .sending then s.test.countErrors 1 else s.test }
    exec (.frameEnd dt heard place order) s = .next (if limit then raise .contention t else t)) ∧
  ∀ s : State, exec .consecutiveCollisionLimit s = .next
    (if 4 ≤ s.bus.consecutive ∧ (s.bus.tx = .ready ∨ s.bus.tx = .sending) then
      raise .contention { s with bus := { s.bus with consecutive := 0, tx := .backoff, quietWheels := 0 } }
    else s)

/-- A clean end releases what the frame carried, to each owner, and then the station acts on the requests of its own
frame (R19, R20, R66, R160, R172, R177, R186; `actOn` is spelled in O34). The copy and the class in force are given up
(log entry 16). The first-raise stamp stands where the note state becomes none, and the following stamp wherever the
following set is emptied (log entry 32). -/
def Obligations.CleanEndReleasesWhatWasCarried : Prop :=
  ∀ (dt : Nat) (heard : Heard) (place : JumpTick) (order : TickOrder) (c : Settings) (f : FrameCopy) (s : State),
    s.settings = some c → s.bus.tx = .sending → s.bus.copy = some f → s.bus.collided = false →
    let u := s.advance dt
    let kept := (s.pub.outbox.filter fun e => !e.inFlight || e.revised).map fun e =>
      { e with inFlight := false, revised := false }
    let released : State :=
      { u with
        bus := { s.bus with tx := .ready, classInForce := none, copy := none, driving := .released, consecutive := 0 }
        fault := if f.note.isSome = false then s.fault
          else if s.fault.following = 0 then
            { s.fault with newlyRaised := 0, notePending := false, noteInFlight := false }
          else { s.fault with newlyRaised := s.fault.following, firstRaise := s.fault.followingStamp, following := 0
                              noteInFlight := false }
        req := { s.req with
          list := s.req.list.filter fun r => !f.requests.any fun x => decide (x.input = r.input)
          statusPending := s.req.statusPending && f.status.isNone }
        pub := { s.pub with
          outbox := kept
          escalated := if kept.length = s.pub.outbox.length then s.pub.escalated
            else if c.escalateMark ≤ kept.length then true
            else if kept.length ≤ c.relaxMark then false else s.pub.escalated }
        test := match f.test with
          | none => s.test
          | some b =>
            if s.test.state ≠ .sending then s.test
            else if b.last then s.test.finish
            else { s.test with due := false, index := if s.test.index = 65535 then 1 else s.test.index + 1 } }
    let acted := (f.requests.map PendingRequest.toRecord).foldl (actOn c c.station) released
    exec (.frameEnd dt heard place order) s = .next
      { acted with line := { busy := false, abandoned := false }, bus := { released.bus with wheel := .gap } }

/-- QUIET_LIMIT in LISTEN on a quiet line starts the clock at 0, ALONE, and enters RUN, the bus controller READY or
MUTED; a READY one begins its first pass at once with tick index 0 (R9, R10, R25, R54, R201, R202). It moves time on to
the limit, which the listen quiet timer holds in RUN (log entry 31), and sets lastTick (log entry 3); elsewhere the
state stands (log entry 5). -/
def Obligations.QuietLimitStartsTheClock : Prop :=
  ∀ (c : Settings) (s : State), s.settings = some c →
    let u := s.advance (2048 - s.loader.listenQuiet)
    let twin := hasFlag s.fault.flags .twin
    exec .quietLimit s = .next (if s.loader.phase = .listen ∧ s.line.busy = false then
        { u with
          time := { s.time with clock := 0, state := .alone, lockTimer := 0, lastTick := 0 }
          loader := { u.loader with phase := .run }
          bus := { s.bus with
            tx := if twin then .muted else .ready
            passTickIndex := 0
            position := if twin then s.bus.position else c.station
            wheel := if twin then .stopped else .pass 0 }
          pub := { s.pub with entries := mapAt (fun i x => match c.entryAt i with
            | none => x
            | some e => { acc := e.startPhase % e.step, gather := [] }) s.pub.entries } }
      else s)

/-! ## Ticks -/

/-- TICK moves the running clock to its next multiple of 2^p, or stands where one is owed, and gives the tick stamped
with it. A tick leaves the bus controller, the line, the request unit, the loader and the settings; it clears no flag
and raises SENSOR, LOCK_LOST, FEED_LOST, LIMIT and SATURATION alone (their causes: O20, O21, O25), and what it raises
acts on the pins and joins the note at the one instant of the tick (R31, R35, R155–R157; log entries 3 and 5).
`tickWork` is the tick as every block takes it, counted or of a jump (O20–O25). -/
def Obligations.TickFallsOnTheNextMultiple : Prop :=
  (∀ (order : TickOrder) (s : State), s.settings = none ∨ s.time.state = .stopped → exec (.tick order) s = .next s) ∧
  (∀ (order : TickOrder) (c : Settings) (s : State), s.settings = some c → s.time.state ≠ .stopped →
    7 ≤ c.period → c.period ≤ 11 →
    let d := if s.time.clock.toNat % 2 ^ c.period = 0 ∧ s.time.clock ≠ s.time.lastTick then 0
      else 2 ^ c.period - s.time.clock.toNat % 2 ^ c.period
    let stamp := s.time.clock + BitVec.ofNat 32 d
    exec (.tick order) s = .next (tickWork c stamp order (s.advance d)) ∧ stamp.toNat % 2 ^ c.period = 0) ∧
  ∀ (order : TickOrder) (c : Settings) (stamp : Stamp) (s : State), s.settings = some c → s.time.state ≠ .stopped →
    let t := tickWork c stamp order s
    t.time.clock = s.time.clock ∧ t.time.lastTick = stamp ∧ t.time.skipped = s.time.skipped ∧
    t.time.laggards = s.time.laggards ∧ t.time.state ≠ .stopped ∧
    t = { s with
      time := t.time, rx := t.rx, pub := t.pub, listen := t.listen, mix := t.mix, meas := t.meas, fault := t.fault
      test := t.test, drive := { s.drive with pendingSetting := t.drive.pendingSetting } } ∧
    (∀ g : Flag, g ≠ .sensor → g ≠ .lockLost → g ≠ .feedLost → g ≠ .limit → g ≠ .saturation →
      hasFlag t.fault.flags g = hasFlag s.fault.flags g) ∧
    let new := t.fault.flags &&& ~~~s.fault.flags
    t.fault = { s.fault.joinNote (new &&& s.noteRoutes) s.time.clock with
      flags := s.fault.flags ||| new
      faultPin := if new = 0 then s.fault.faultPin else false
      stopPull := if new = 0 then s.fault.stopPull
        else decide ((s.fault.flags ||| new) &&& s.stopRoutes ≠ 0) }

/-- A tick takes the snapshot and begins an exchange, or abandons the one in progress as failed, RATE_CS high and
RATE_SCLK low; SENSOR rises where that brings the failure run to 3 or more, and only there (R122, R127–R129). One in
the 1 µs wait counts as in progress (log entry 15), and the bits received are cleared (log entry 16). -/
def Obligations.TickTakesTheSnapshot : Prop :=
  ∀ (order : TickOrder) (c : Settings) (stamp : Stamp) (s : State), s.settings = some c → s.time.state ≠ .stopped →
    let t := tickWork c stamp order s
    let frozen : Measurement := { s.meas with
      snapCount := s.meas.count, snapRate := s.meas.lastRate, received := 0, rateMosi := false }
    t.meas = (if s.meas.exchange = .idle then
        { frozen with exchange := .exchanging, rateCs := false, rateSclk := .running }
      else
        { frozen with exchange := .restarting, rateCs := true, rateSclk := .low
                      failureRun := min 255 (s.meas.failureRun + 1) }) ∧
    (hasFlag t.fault.flags .sensor = true ↔ hasFlag s.fault.flags .sensor = true ∨
      (s.meas.exchange ≠ .idle ∧ 3 ≤ s.meas.failureRun + 1))

/-- The mix at a tick, in every drive state and time state: the terms read the snapshot, the history and the rings as
this tick's ageing left them; groups are masked and FEED_LOST judged; the sums give the effort, the integral, the
saturation run, the limit marks, the flags and the pending setting (R96, R100–R117, R148). The time state it reads is
that of its place in the order (R95, log entry 7). -/
def Obligations.TickMixesTheTerms : Prop :=
  ∀ (order : TickOrder) (c : Settings) (stamp : Stamp) (s : State), s.settings = some c → s.time.state ≠ .stopped →
    let t := tickWork c stamp order s
    let before := othersPresent c.station s.rx.roster = true
    let after := othersPresent c.station t.rx.roster = true
    let locked : Prop := match order with
      | .mixWindowExpiry | .mixExpiryWindow => s.time.state = .locked
      | .windowMixExpiry => s.time.state = .locked ∧ ¬(s.time.lockTimer = 15 ∧ before)
      | .expiryMixWindow => s.time.state = .locked ∧ (before → after)
      | .windowExpiryMix | .expiryWindowMix => t.time.state = .locked
    let rows := c.mixRows.filterMap id
    let v : LocalValues :=
      { position := c.positionOf s.meas.count, rate := s.meas.lastRate.toInt
        integral := s.mix.integral.tdiv 1024, priorEffort := s.mix.effort }
    let read (h : LocalValues) : MixSource → Int
      | .position => h.position
      | .rate => h.rate
      | .integral => h.integral
      | .priorEffort => h.priorEffort
      | .bias | .slot _ => 1024
    let sat (x : Int) : Int := max (-32768) (min 32767 x)
    let target := stamp - BitVec.ofNat 32 (c.alignDelay * 2 ^ c.period)
    let value (row : MixRow) : Option Int :=
      match row.source, row.use with
      | .slot k, .level => ((t.listen.get k).select target).value
      | .slot k, .slope =>
        match ((t.listen.get k).select target).value,
          ((t.listen.get k).select (target - BitVec.ofNat 32 (2 ^ c.period))).value with
        | some a, some b => some (sat (a - b))
        | _, _ => none
      | x, .level => some (read v x)
      | x, .slope => some (match s.mix.history with
        | none => 0
        | some h => sat (read v x - read h x))
    let masked (g : Fin 4) : Prop := g ≠ 0 ∧ (¬locked ∨ ∃ row ∈ rows, row.group = g ∧ value row = none)
    let counts (row : MixRow) : Prop := row.group = 0 ∨ (¬masked row.group ∧ s.drive.state ≠ .hold)
    ∀ (se si : Int) (term : MixRow → Int),
      (∀ row ∈ rows, (counts row → term row = (value row).getD 0 * row.weight.toInt) ∧ (¬counts row → term row = 0)) →
      se = ((rows.filter fun row => decide (row.route ≠ .integral)).map term).sum →
      si = ((rows.filter fun row => decide (row.route ≠ .effort)).map term).sum →
    let raw := (se + 512) / 1024
    let clamped := max (-(c.effortLimit : Int)) (min (c.effortLimit : Int) raw)
    let acted := (c.highLimit ≤ v.position ∧ 0 < clamped) ∨ (v.position ≤ c.lowLimit ∧ clamped < 0)
    let engaged := raw < -c.effortLimit ∨ c.effortLimit < raw
    let effort := if acted then 0 else clamped
    let run := if c.saturationCount = 0 ∨ ¬engaged then 0 else min 255 (s.mix.satRun + 1)
    let bound : Int := c.integralLimit * 1024
    (∀ g : Fin 4, g ≠ 0 → (t.mix.mask.getLsbD (g.val - 1) = true ↔ masked g)) ∧
    t.mix = { integral := match s.drive.state with
                | .active => if acted then s.mix.integral
                    else max (-bound) (min bound (s.mix.integral + si / 2 ^ c.integralShift))
                | .hold | .coast => s.mix.integral
                | .off | .disarmed => 0
              effort := effort, prior := s.mix.effort, history := some v, mask := t.mix.mask, satRun := run
              atHigh := decide (c.highLimit ≤ v.position), atLow := decide (v.position ≤ c.lowLimit) } ∧
    t.drive.pendingSetting = some { effort := effort, state := s.drive.state } ∧
    (hasFlag t.fault.flags .feedLost = true ↔ hasFlag s.fault.flags .feedLost = true ∨ (s.drive.state = .active ∧
      ∃ row ∈ rows, masked row.group ∧ s.mix.mask.getLsbD (row.group.val - 1) = false)) ∧
    (hasFlag t.fault.flags .limit = true ↔ hasFlag s.fault.flags .limit = true ∨ acted) ∧
    (hasFlag t.fault.flags .saturation = true ↔
      hasFlag s.fault.flags .saturation = true ∨ (0 < c.saturationCount ∧ c.saturationCount ≤ run))

/-- A slot that is not LIVE is STALE at every instant; a LIVE one gives EXACT the one sample stamped with the instant,
else HELD its newest sample after it and its oldest before it, and in every other case, where its stamps rise, BRIDGED
between the two consecutive samples that the instant lies between (R97, R98; the order of stamps: log entries 8 and
9). -/
def Obligations.SelectionReadsTheRing : Prop :=
  ∀ (slot : Slot) (x : Stamp),
    (slot.state ≠ .live → slot.select x = .stale) ∧
    (slot.state = .live →
      (∀ y ∈ slot.ring, y.stamp = x → (∀ z ∈ slot.ring, z.stamp = x → z = y) → slot.select x = .exact y.value.toInt) ∧
      ((∀ y ∈ slot.ring, y.stamp ≠ x) → ∀ oldest newest, slot.ring.head? = some oldest →
        slot.ring.getLast? = some newest →
        (later x newest.stamp = true → slot.select x = .held newest.value.toInt) ∧
        (later x newest.stamp = false → later oldest.stamp x = true → slot.select x = .held oldest.value.toInt) ∧
        (slot.Rising → later x newest.stamp = false → later x oldest.stamp = true →
          ∃ v, slot.select x = .bridged v)) ∧
      ∀ v, slot.select x = .bridged v → ∃ before s0 s1 after, slot.ring = before ++ s0 :: s1 :: after ∧
        later x s0.stamp = true ∧ later s1.stamp x = true ∧ v = bridge x s0 s1)

/-- Purge and ageing at a tick, sample by sample, against the clock at the tick (R85, R86). After a jump of little more
than 2^20 µs this keeps a sample stamped ahead of the old clock, where R87 has every ring emptied (the model's choice,
log entry 30). -/
def Obligations.TickAgesTheListenSlots : Prop :=
  ∀ (order : TickOrder) (c : Settings) (stamp : Stamp) (s : State), s.settings = some c → s.time.state ≠ .stopped →
    let t := tickWork c stamp order s
    ∀ k : Fin 12,
      let slot := s.listen.get k
      let lagOf (x : Sample) : Nat :=
        if (x.stamp - s.time.clock).toNat ≤ c.tolerance then 0 else (s.time.clock - x.stamp).toNat
      let ring := slot.ring.filter fun x => decide (lagOf x ≤ 2 ^ 20)
      t.listen.get k = if (c.slots.get k).enabled = false ∨ slot.state = .clash then slot
        else { slot with
          ring := ring
          state := match ring.getLast? with
            | none => .empty
            | some newest => if lagOf newest ≤ c.ageLimit * 2 ^ c.period then .live else .aged }

/-- At a tick the entries are taken in increasing order of their numbers: an enabled one adds 4 to its accumulator, and
at its step takes one sample of this tick's values, gives up the step and requests the sample, or gathers evenly spaced
samples and requests them when full (R55–R60); then the beat timer counts up to the beat interval (R71). O29 spells
`takeRequest`. -/
def Obligations.TickCountsTowardPublication : Prop :=
  ∀ (order : TickOrder) (c : Settings) (stamp : Stamp) (s : State), s.settings = some c → s.time.state ≠ .stopped →
    (∀ e ∈ c.publish, 1 ≤ e.burst) →
    let t := tickWork c stamp order s
    let value (e : PublishEntry) : Half := BitVec.ofInt 16 (match e.source with
      | .position => c.positionOf s.meas.count
      | .rate => s.meas.lastRate.toInt
      | .effort => t.mix.effort
      | .integral => t.mix.integral.tdiv 1024)
    let taken (p : Publisher) (i : Fin 8) : Publisher :=
      match c.entryAt i with
      | none => p
      | some e =>
        let x := p.entries.get i
        let keep (acc : Nat) (gather : List Sample) : Publisher :=
          { p with entries := putAt p.entries i { acc := acc, gather := gather } }
        let sample : Sample := { stamp := stamp, value := value e }
        let gather := match x.gather.getLast? with
          | none => [sample]
          | some y => if stamp = y.stamp + BitVec.ofNat 32 (e.step / 4 * 2 ^ c.period) then x.gather ++ [sample]
              else [sample]
        if x.acc + 4 < e.step then keep (x.acc + 4) x.gather
        else if e.burst = 1 then (keep (x.acc + 4 - e.step) x.gather).takeRequest c
          { tag := e.tag, values := [value e], newest := stamp, spacing := 0 }
        else if e.burst ≤ gather.length then (keep (x.acc + 4 - e.step) []).takeRequest c
          { tag := e.tag, values := gather.map (·.value), newest := stamp, spacing := BitVec.ofNat 8 (e.step / 4) }
        else keep (x.acc + 4 - e.step) gather
    let beat := if s.pub.beatTimer < c.beatInterval then s.pub.beatTimer + 1 else s.pub.beatTimer
    t.pub = { [0, 1, 2, 3, 4, 5, 6, 7].foldl taken s.pub with
      beatTimer := beat, beatDue := s.pub.beatDue || decide (c.beatInterval ≤ beat) } ∧
    (∀ i : Fin 8, (t.pub.entries.get i).acc = match c.entryAt i with
      | none => (s.pub.entries.get i).acc
      | some e => if e.step ≤ (s.pub.entries.get i).acc + 4 then (s.pub.entries.get i).acc + 4 - e.step
          else (s.pub.entries.get i).acc + 4) ∧
    (∀ i : Fin 8, (∀ e, c.entryAt i = some e → (s.pub.entries.get i).acc + 4 < e.step) →
      (t.pub.entries.get i).gather = (s.pub.entries.get i).gather) ∧
    ((∀ i e, c.entryAt i = some e → (s.pub.entries.get i).acc + 4 < e.step) →
      t.pub.outbox = s.pub.outbox ∧ t.pub.escalated = s.pub.escalated ∧ t.pub.coalesces = s.pub.coalesces)

/-- At a tick, in every order (log entry 7), overdue stations expire, the lock window counts and acts, the noise bucket
leaks at every fourth, and the test unit marks its frame due or counts its quiet timer; LOCK_LOST rises where the time
state leaves LOCKED, and only there (R29, R30, R41, R50, R185, R189). -/
def Obligations.TickExpiresAndCounts : Prop :=
  ∀ (order : TickOrder) (c : Settings) (stamp : Stamp) (s : State), s.settings = some c → s.time.state ≠ .stopped →
    let before := othersPresent c.station s.rx.roster = true
    let t := tickWork c stamp order s
    (∀ j : Fin 32, t.rx.roster.get j =
      let r := s.rx.roster.get j
      if r.present = true ∧ c.rosterTimeout * 2 ^ c.period < (s.time.clock - r.lastHeard).toNat then
        { r with present := false }
      else r) ∧
    (let after := othersPresent c.station t.rx.roster = true
     t.time.state = (if before ∧ ¬after then .alone
       else if s.time.state = .locked ∧ s.time.lockTimer = 15 ∧ after then .adrift else s.time.state) ∧
     (s.time.state = .locked → (before → after) → t.time.lockTimer =
       if s.time.lockTimer < 16 then s.time.lockTimer + 1 else s.time.lockTimer)) ∧
    (s.time.state ≠ .locked → t.time.lockTimer = s.time.lockTimer) ∧
    (hasFlag t.fault.flags .lockLost = true ↔ hasFlag s.fault.flags .lockLost = true ∨
      (s.time.state = .locked ∧ t.time.state ≠ .locked)) ∧
    t.rx.leakCount = (if s.rx.leakCount < 3 then s.rx.leakCount + 1 else 0) ∧
    t.rx.noiseBucket = (if s.rx.leakCount < 3 then s.rx.noiseBucket else s.rx.noiseBucket - 1) ∧
    t.rx.corrupted = s.rx.corrupted ∧ t.rx.arrival = s.rx.arrival ∧
    t.test = (match s.test.state with
      | .sending => { s.test with due := true }
      | .checking =>
        if s.test.quiet < 31 then { s.test with quiet := s.test.quiet + 1 }
        else ({ s.test with quiet := 32 }.countErrors 1).finish
      | .idle | .done => s.test)

/-- LOCK_WINDOW_EXPIRY and ROSTER_EXPIRY: the window at 16 with another station present makes ADRIFT, an overdue record
becomes not present, and the loss of the last other station makes ALONE; LOCK_LOST is raised where the state was
LOCKED (R29, R30, R50; log entry 10). -/
def Obligations.WindowAndRosterExpire : Prop :=
  (∀ (c : Settings) (s : State), s.settings = some c → exec .lockWindowExpiry s = .next
    (if s.time.state = .locked ∧ 16 ≤ s.time.lockTimer ∧ othersPresent c.station s.rx.roster = true then
      raise .lockLost { s with time := { s.time with state := .adrift } }
    else s)) ∧
  ∀ (station : Station) (c : Settings) (s : State), s.settings = some c → s.time.state ≠ .stopped →
    let r := s.rx.recordOf station
    let roster := putAt s.rx.roster (stationIndex station) { r with present := false }
    let expired : State := { s with rx := { s.rx with roster := roster } }
    let alone : State := { expired with time := { s.time with state := .alone } }
    exec (.rosterExpiry station) s = .next
      (if r.present = true ∧ c.rosterTimeout * 2 ^ c.period < (s.time.clock - r.lastHeard).toNat then
        if othersPresent c.station s.rx.roster = true ∧ othersPresent c.station roster = false then
          (if s.time.state = .locked then raise .lockLost alone else alone)
        else expired
      else s)

/-- The rows whose limit stands in the state: NOISE_BUCKET_FULL, FAILURE_RUN_LIMIT and SATURATION_RUN_LIMIT raise their
flags, NOISE_LEAK leaks and BEAT_DUE marks (R40, R41, R71, R111, R127; log entry 10). -/
def Obligations.LimitsReachedAct : Prop :=
  (∀ s : State,
    exec .noiseBucketFull s = .next (if s.rx.noiseBucket = 16 then raise .linkNoise s else s) ∧
    exec .failureRunLimit s = .next (if 3 ≤ s.meas.failureRun then raise .sensor s else s) ∧
    exec .noiseLeak s = .next (if 4 ≤ s.rx.leakCount then
        { s with rx := { s.rx with leakCount := 0, noiseBucket := s.rx.noiseBucket - 1 } }
      else s)) ∧
  ∀ (c : Settings) (s : State), s.settings = some c →
    exec .saturationRunLimit s = .next
      (if 0 < c.saturationCount ∧ c.saturationCount ≤ s.mix.satRun then raise .saturation s else s) ∧
    exec .beatDue s = .next
      (if c.beatInterval ≤ s.pub.beatTimer then { s with pub := { s.pub with beatDue := true } } else s)

/-- PUBLISH_SAMPLE and BURST_COMPLETE given as commands, where the state itself stands at the limit (log entry 10; a run
takes them inside its ticks, O24): an accumulator at its step takes one sample of its source, stamped with the latest
tick; a burst of 1 requests it at once, a longer one gathers evenly spaced samples and requests them when full
(R55–R59). -/
def Obligations.SamplesAreTakenAndRequested : Prop :=
  ∀ (i : Fin 8) (e : PublishEntry) (c : Settings) (s : State), s.settings = some c → c.entryAt i = some e →
    1 ≤ e.burst →
    let x := s.pub.entries.get i
    let value := toHalf (match e.source with
      | .position => c.positionOf s.meas.snapCount
      | .rate => s.meas.snapRate.toInt
      | .effort => s.mix.effort
      | .integral => s.mix.integral.tdiv 1024)
    let sample : Sample := { stamp := s.time.lastTick, value := value }
    let gather := match x.gather.getLast? with
      | none => [sample]
      | some y => if sample.stamp = y.stamp + BitVec.ofNat 32 (e.step / 4 * 2 ^ c.period) then x.gather ++ [sample]
          else [sample]
    let single : OutboxRequest := { tag := e.tag, values := [value], newest := s.time.lastTick, spacing := 0 }
    let keep (y : PublishState) : Publisher := { s.pub with entries := putAt s.pub.entries i y }
    let burst (acc : Nat) (g : List Sample) (newest : Stamp) : Publisher :=
      (keep { acc := acc, gather := [] }).takeRequest c
        { tag := e.tag, values := g.map (·.value), newest := newest, spacing := BitVec.ofNat 8 (e.step / 4) }
    exec (.publishSample i) s = .next
      (if x.acc < e.step then s
      else if e.burst = 1 then
        { s with pub := (keep { x with acc := x.acc - e.step }).takeRequest c single }
      else if e.burst ≤ gather.length then { s with pub := burst (x.acc - e.step) gather s.time.lastTick }
      else { s with pub := keep { acc := x.acc - e.step, gather := gather } }) ∧
    exec (.burstComplete i) s = .next
      (match x.gather.getLast? with
      | none => s
      | some newest =>
        if 1 < e.burst ∧ e.burst ≤ x.gather.length then { s with pub := burst x.acc x.gather newest.stamp } else s)

/-- An outbox request appends an entry of its own tag, on which escalation is judged, or replaces the contents of the
entry that holds its tag, which keeps its place and is marked revised if it is in flight; the frame being sent is not
changed (R62–R64, R69, R70). -/
def Obligations.OutboxTakesARequest : Prop :=
  ∀ (c : Settings) (r : OutboxRequest) (s : State),
    let t := s.setPub (s.pub.takeRequest c r)
    t.bus = s.bus ∧ t.pub.entries = s.pub.entries ∧
    ((∀ e ∈ s.pub.outbox, e.tag ≠ r.tag) →
      t.pub.outbox = s.pub.outbox ++
        [{ tag := r.tag, values := r.values, newest := r.newest, spacing := r.spacing, inFlight := false
           revised := false }] ∧
      t.pub.outbox.length = s.pub.outbox.length + 1 ∧ t.pub.coalesces = s.pub.coalesces ∧
      t.pub.escalated = (if c.escalateMark ≤ s.pub.outbox.length + 1 then true
        else if s.pub.outbox.length + 1 ≤ c.relaxMark then false else s.pub.escalated)) ∧
    ((∃ e ∈ s.pub.outbox, e.tag = r.tag) →
      t.pub.outbox.length = s.pub.outbox.length ∧ t.pub.escalated = s.pub.escalated ∧
      t.pub.coalesces = min 65535 (s.pub.coalesces + 1) ∧
      ∀ (n : Nat) (e : OutboxEntry), s.pub.outbox[n]? = some e → t.pub.outbox[n]? = some
        (if e.tag = r.tag then
          { e with values := r.values, newest := r.newest, spacing := r.spacing
                   revised := if e.inFlight then true else e.revised }
        else e))

/-! ## Reception -/

/-- A corrupted frame is counted, fills the noise bucket, raises LINK_NOISE where the bucket goes to 16, and is an error
at a checker (R39, R40, R188). A stretch that ends in LOAD or OFF, or that was on the line at a reset, has no verdict
where this station was not sending: no count, no flag and no payload, the line quiet and the gap begun by a controller
that runs the wheel (R5, R38; log entry 20). -/
def Obligations.CorruptedFrameIsCountedIfJudged : Prop :=
  (∀ (dt : Nat) (heard : Heard) (place : JumpTick) (order : TickOrder) (s : State),
    s.settings = none ∨ (s.bus.tx ≠ .sending ∧
      (s.loader.phase = .load ∨ s.loader.phase = .off ∨ s.line.abandoned = true)) →
    exec (.frameEnd dt heard place order) s = .next
      { s.advance dt with
        line := { busy := false, abandoned := false }
        bus := { s.bus with wheel := if s.bus.tx = .ready ∨ s.bus.tx = .backoff then .gap else .stopped } }) ∧
  ∀ (dt : Nat) (heard : Heard) (place : JumpTick) (order : TickOrder) (c : Settings) (s : State),
    s.settings = some c → s.bus.tx ≠ .sending → s.loader.phase = .listen ∨ s.loader.phase = .run →
    s.line.abandoned = false → readFrame heard = none →
    let u := s.advance dt
    let t : State :=
      { u with
        line := { busy := false, abandoned := false }
        bus := { s.bus with wheel := if s.bus.tx = .ready ∨ s.bus.tx = .backoff then .gap else .stopped }
        rx := { s.rx with
          corrupted := min 65535 (s.rx.corrupted + 1)
          noiseBucket := if s.rx.noiseBucket < 16 then s.rx.noiseBucket + 1 else s.rx.noiseBucket }
        test := if s.test.state = .checking then s.test.countErrors 1 else s.test }
    exec (.frameEnd dt heard place order) s = .next (if s.rx.noiseBucket = 15 then raise .linkNoise t else t)

/-- A clean frame of this station's own number raises TWIN and mutes the bus controller; one of another period code
raises PERIOD, marks its station and ends a BACKOFF (R10, R18, R42, R43). -/
def Obligations.TwinAndForeignFramesAreFlagged : Prop :=
  ∀ (dt : Nat) (heard : Heard) (place : JumpTick) (order : TickOrder) (c : Settings) (f : HeardFrame) (s : State),
    s.settings = some c → s.bus.tx ≠ .sending → s.loader.phase = .listen ∨ s.loader.phase = .run →
    s.line.abandoned = false → readFrame heard = some f →
    let u := s.advance dt
    let marked := putAt s.rx.roster (stationIndex f.station) { s.rx.recordOf f.station with periodMismatch := true }
    (f.station = c.station → exec (.frameEnd dt heard place order) s = .next (raise .twin
      { u with
        line := { busy := false, abandoned := false }
        bus := { s.bus with tx := if s.bus.tx = .silent then .silent else .muted, wheel := .stopped } })) ∧
    (f.station ≠ c.station → f.period.toNat ≠ c.period → exec (.frameEnd dt heard place order) s = .next (raise .period
      { u with
        line := { busy := false, abandoned := false }
        bus := { s.bus with
          tx := if s.bus.tx = .backoff then .ready else s.bus.tx
          wheel := if s.bus.tx = .ready ∨ s.bus.tx = .backoff then .gap else .stopped }
        rx := { s.rx with roster := marked } }))

/-- The first matching frame in LISTEN is adopted: the clock starts at send stamp + 12 + length, LOCKED, the part enters
RUN, the sender's record takes the frame, heard at send stamp + 2, and the payload is handed on in order (R9, R24, R44,
R47, R54, R202; lastTick: log entry 3; the listen quiet timer keeps its value: log entry 31). -/
def Obligations.AdoptionStartsTheClock : Prop :=
  ∀ (dt : Nat) (heard : Heard) (place : JumpTick) (order : TickOrder) (c : Settings) (f : HeardFrame) (s : State),
    s.settings = some c → s.loader.phase = .listen → s.time.state = .stopped → s.bus.tx = .silent →
    s.line.abandoned = false → readFrame heard = some f → f.station ≠ c.station → f.period.toNat = c.period →
    let u := s.advance dt
    let twin := hasFlag s.fault.flags .twin = true
    let r := s.rx.recordOf f.station
    let updated : StationRecord :=
      { r with
        present := true, lastSequence := f.sequence, periodMismatch := false, lastHeard := f.stamp + 2
        missed := if r.present then min 255 (r.missed + (f.sequence - r.lastSequence - 1).toNat) else r.missed }
    let adopted : State :=
      { u with
        time := { s.time with clock := f.stamp + BitVec.ofNat 32 (12 + f.length), state := .locked, lockTimer := 0
                              lastTick := f.stamp + BitVec.ofNat 32 (12 + f.length) }
        loader := { u.loader with phase := .run }
        bus := { s.bus with tx := if twin then .muted else .ready }
        pub := { s.pub with entries := mapAt (fun i x => match c.entryAt i with
          | none => x
          | some e => { acc := e.startPhase % e.step, gather := [] }) s.pub.entries }
        rx := { s.rx with roster := putAt s.rx.roster (stationIndex f.station) updated } }
    let t := f.handed.foldl (takeHanded c f.station) adopted
    exec (.frameEnd dt heard place order) s = .next
      { t with
        line := { busy := false, abandoned := false }
        bus := { t.bus with wheel := if twin then .stopped else .gap } }

/-- A matching frame in RUN moves the clock forward by a diff above 0 and never back, counts the k − 1 multiples of 2^p
passed over (R32; from the instant before a multiple whose tick is owed, R33 and log entry 3) and laggards, ends a
BACKOFF, and, where it produces no tick, changes the time state by its diff (R18, R26–R28). -/
def Obligations.MatchingFrameMovesTheClock : Prop :=
  ∀ (dt : Nat) (heard : Heard) (place : JumpTick) (order : TickOrder) (c : Settings) (f : HeardFrame) (s : State),
    s.settings = some c → s.loader.phase = .run → s.time.state ≠ .stopped → s.bus.tx ≠ .sending →
    s.line.abandoned = false → readFrame heard = some f → f.station ≠ c.station → f.period.toNat = c.period →
    let diff := (f.stamp + 2 - s.rx.arrival).toInt
    let a := s.time.clock + BitVec.ofNat 32 dt
    let b := if 0 < diff then a + BitVec.ofInt 32 diff else a
    let owed := a.toNat % 2 ^ c.period = 0 ∧ a ≠ s.time.lastTick
    let from' := if owed then a - 1 else a
    let multiple (x : Stamp) : Stamp := x - BitVec.ofNat 32 (x.toNat % 2 ^ c.period)
    let k := (multiple b - multiple from').toNat / 2 ^ c.period
    ∃ t, exec (.frameEnd dt heard place order) s = .next t ∧
      t.time.clock = b ∧
      t.time.skipped = (if 0 < diff then min 65535 (s.time.skipped + (k - 1)) else s.time.skipped) ∧
      t.time.laggards = (if diff < -c.tolerance then min 65535 (s.time.laggards + 1) else s.time.laggards) ∧
      t.bus.tx = (if s.bus.tx = .backoff then .ready else s.bus.tx) ∧
      t.line = { busy := false, abandoned := false } ∧
      (diff ≤ 0 ∨ k = 0 →
        t.time.lastTick = s.time.lastTick ∧
        t.time.state = (if -c.tolerance ≤ diff ∧ diff ≤ c.tolerance then .locked
          else if c.tolerance < diff ∧ s.time.state = .locked then .adrift else s.time.state) ∧
        t.time.lockTimer = (if -c.tolerance ≤ diff ∧ diff ≤ c.tolerance then 0 else s.time.lockTimer)) ∧
      (0 < diff → 1 ≤ k → t.time.lastTick = multiple b)

/-- A matching frame in RUN, whatever its diff: the stamp moves the clock and the time state, the station's record is
updated on the moved clock, and the payload is handed on in record order, with the one tick that a jump over a multiple
gives taken where `place` says (R26–R28, R32, R33, R44–R47, R51, R88; log entries 3, 7 and 12). What is handed on acts
as the command of its name; a REQUEST record acts in RUN alone, where its mask names this station and its origin is the
station of its frame (R175, R176; log entry 6). -/
def Obligations.MatchingFrameHandsItsPayloadOn : Prop :=
  (∀ (dt : Nat) (heard : Heard) (place : JumpTick) (order : TickOrder) (c : Settings) (f : HeardFrame) (s : State),
    s.settings = some c → s.loader.phase = .run → s.time.state ≠ .stopped → s.bus.tx ≠ .sending →
    s.line.abandoned = false → readFrame heard = some f → f.station ≠ c.station → f.period.toNat = c.period →
    let u := s.advance dt
    let diff := (f.stamp + 2 - s.rx.arrival).toInt
    let a := s.time.clock + BitVec.ofNat 32 dt
    let b := if 0 < diff then a + BitVec.ofInt 32 diff else a
    let from' := if a.toNat % 2 ^ c.period = 0 ∧ a ≠ s.time.lastTick then a - 1 else a
    let multiple (x : Stamp) : Stamp := x - BitVec.ofNat 32 (x.toNat % 2 ^ c.period)
    let k := (multiple b - multiple from').toNat / 2 ^ c.period
    let agrees := -(c.tolerance : Int) ≤ diff ∧ diff ≤ c.tolerance
    let leaves := (c.tolerance : Int) < diff ∧ s.time.state = .locked
    let moved : State :=
      { u with
        time := { s.time with
          clock := b
          skipped := if 0 < diff then min 65535 (s.time.skipped + (k - 1)) else s.time.skipped
          laggards := if diff < -(c.tolerance : Int) then min 65535 (s.time.laggards + 1) else s.time.laggards
          state := if agrees then .locked else if leaves then .adrift else s.time.state
          lockTimer := if agrees then 0 else s.time.lockTimer }
        bus := { s.bus with tx := if s.bus.tx = .backoff then .ready else s.bus.tx } }
    let stamped := if leaves then raise .lockLost moved else moved
    let ticked (x : State) : State := if 0 < diff ∧ 1 ≤ k then tickWork c (multiple b) order x else x
    let updated (x : State) : State :=
      let r := x.rx.recordOf f.station
      let heardNow : StationRecord :=
        { r with
          present := true, lastSequence := f.sequence, periodMismatch := false
          lastHeard := b - BitVec.ofNat 32 (10 + f.length)
          missed := if r.present then min 255 (r.missed + (f.sequence - r.lastSequence - 1).toNat) else r.missed }
      { x with rx := { x.rx with roster := putAt x.rx.roster (stationIndex f.station) heardNow } }
    let handed (l : List Handed) (x : State) : State := l.foldl (takeHanded c f.station) x
    let t := match place with
      | .afterStamp => handed f.handed (updated (ticked stamped))
      | .afterRecords n => handed (f.handed.drop n) (ticked (handed (f.handed.take n) (updated stamped)))
    exec (.frameEnd dt heard place order) s = .next
      { t with
        line := { busy := false, abandoned := false }
        bus := { t.bus with wheel := if s.bus.tx = .ready ∨ s.bus.tx = .backoff then .gap else .stopped } }) ∧
  (∀ (sender : Station) (c : Settings) (s : State), s.settings = some c → s.loader.phase = .run → sender ≠ c.station →
    (∀ r : TagRecord, r.usable = true →
      exec (.tagRecord sender r) s = .next (takeHanded c sender s (.record (.tag r)))) ∧
    (∀ r : NoteRecord, exec (.noteRecord sender r) s = .next (takeHanded c sender s (.record (.note r)))) ∧
    ∀ b : TestBlock, b.usable = true → exec (.testBlock sender b) s = .next (takeHanded c sender s (.block b))) ∧
  ∀ (station : Station) (c : Settings) (r : RequestRecord) (s : State), s.settings = some c →
    takeHanded c station s (.record .status) = s ∧
    takeHanded c station s (.record (.request r)) = actOn c station s r ∧
    (s.loader.phase = .run → r.mask.getLsbD c.station.toNat = true → r.origin.toNat = station.toNat →
      exec (match r.kind with
        | .arm => .arm
        | .disarm => .disarm
        | .clear => .clear
        | .query => .query
        | .testStart => .testStart (r.sender.truncate 5) r.count station
        | .testStop => .testStop (r.sender.truncate 5)) s = .next (actOn c station s r)) ∧
    (s.loader.phase ≠ .run ∨ r.mask.getLsbD c.station.toNat = false ∨ r.origin.toNat ≠ station.toNat →
      actOn c station s r = s)

/-- TAG_RECORD: the slot that names the tag discards it in CLASH, clashes where it is of another publisher, and else
judges each sample by its derived stamp, oldest first: future, late, or appended (R77–R83; stamps 2^31 apart: log entry
8; each sample by its own stamp: log entry 27). A record that is not usable, or outside RUN, is log entry 6's. -/
def Obligations.TagRecordReachesItsSlot : Prop :=
  (∀ (sender : Station) (r : TagRecord) (c : Settings) (s : State), s.settings = some c → s.loader.phase = .run →
    sender ≠ c.station → r.usable = true →
    exec (.tagRecord sender r) s = .next (match c.slotOf r.tag with
      | none => s
      | some k =>
        let slot := s.listen.get k
        if slot.state = .clash then s
        else if slot.publisher ≠ none ∧ slot.publisher ≠ some sender then
          raise .clash { s with listen := putAt s.listen k { slot with state := .clash, ring := [] } }
        else
          let bound := s.now + BitVec.ofNat 32 c.tolerance
          { s with listen := putAt s.listen k ((tagSamples c r).foldl (Slot.takeSample bound sender) slot) })) ∧
  (∀ (bound : Stamp) (sender : Station) (slot : Slot) (x : Sample), slot.takeSample bound sender x =
    if 1 ≤ (x.stamp - bound).toNat ∧ (x.stamp - bound).toNat < 2 ^ 31 then
      { slot with future := min 65535 (slot.future + 1) }
    else if ∃ y, slot.ring.getLast? = some y ∧
        ¬(1 ≤ (x.stamp - y.stamp).toNat ∧ (x.stamp - y.stamp).toNat < 2 ^ 31) then
      { slot with late := min 65535 (slot.late + 1) }
    else
      { slot with
        ring := (if slot.ring.length < 8 then slot.ring else slot.ring.tail) ++ [x]
        publisher := match slot.publisher with
          | none => some sender
          | some p => some p }) ∧
  ∀ (c : Settings) (r : TagRecord), (tagSamples c r).length = r.values.length ∧
    ∀ (j : Nat) (v : Half), r.values[j]? = some v → (tagSamples c r)[j]? = some ({
      stamp := r.newest - BitVec.ofNat 32 ((r.values.length - 1 - j) * (r.spacing.toNat * 2 ^ c.period))
      value := v } : Sample)

/-- NOTE_RECORD sets the last note flags of its station and raises REMOTE if the station is watched (R48, R163). -/
def Obligations.NoteRecordReachesTheRoster : Prop :=
  ∀ (sender : Station) (r : NoteRecord) (c : Settings) (s : State), s.settings = some c →
    let roster := putAt s.rx.roster (stationIndex sender) { s.rx.recordOf sender with noteFlags := r.allSet }
    let t : State := { s with rx := { s.rx with roster := roster } }
    exec (.noteRecord sender r) s = .next
      (if s.loader.phase = .run ∧ sender ≠ c.station then
        (if c.watchMask.getLsbD sender.toNat then raise .remote t else t)
      else s)

/-! ## Measurement and the mix -/

/-- ENCODER_ACCEPTANCE: the first sample becomes the previous sample of each channel, and the second is accepted where
it equals the first (log entry 14); a change of one channel steps the count along 00, 10, 11, 01, 00 or back, a change
of both is illegal and raises ENCODER in LISTEN and RUN, and a first level is no step (R119–R121). -/
def Obligations.EncoderCountsQuadratureSteps : Prop :=
  ∀ (dt : Nat) (first second : EncSample) (s : State),
    let u := s.advance dt
    let levelA := if first.a = second.a then some second.a else s.meas.encA.level
    let levelB := if first.b = second.b then some second.b else s.meas.encB.level
    let before := (s.meas.encA.level, s.meas.encB.level)
    let after := (levelA, levelB)
    let order := [((some false, some false), (some true, some false)), ((some true, some false), (some true, some true)),
      ((some true, some true), (some false, some true)), ((some false, some true), (some false, some false))]
    let t : State := { u with meas := { s.meas with
      encA := { prev := some second.a, level := levelA }, encB := { prev := some second.b, level := levelB }
      count := if order.contains (before, after) then s.meas.count + 1
        else if order.contains (after, before) then s.meas.count - 1 else s.meas.count } }
    exec (.encoderAcceptance dt first second) s = .next (if s.resetLow then s
      else if s.meas.encA.level ≠ none ∧ s.meas.encB.level ≠ none ∧ levelA ≠ s.meas.encA.level ∧
          levelB ≠ s.meas.encB.level ∧ (s.loader.phase = .listen ∨ s.loader.phase = .run) then raise .encoder t
      else t)

/-- EXCHANGE_COMPLETE judges the word: ready, check and rolling count right give the rate and clear the failure run; a
failure grows the run and raises SENSOR from 3; the count reference takes every ready word with a right check; RATE_CS
is high and RATE_SCLK low again. EXCHANGE_RESTART begins the exchange that follows an abandonment (R122–R128). Outside
an exchange, or the wait, only time passes (log entry 5); the bits received stand (log entry 16). -/
def Obligations.ExchangeIsJudged : Prop :=
  (∀ (dt : Nat) (w : BitVec 32) (s : State),
    let whole := w.getLsbD 31 = true ∧
      w.extractLsb' 0 8 = w.extractLsb' 24 8 + w.extractLsb' 16 8 + w.extractLsb' 8 8
    let good := whole ∧ ∀ r, s.meas.countRef = some r → w.extractLsb' 24 4 = r + 1
    let m : Measurement := { s.meas with
      exchange := .idle, received := w, rateCs := true, rateSclk := .low, rateMosi := false
      countRef := if whole then some (w.extractLsb' 24 4) else s.meas.countRef }
    let failed : State := { s.advance dt with meas := { m with failureRun := min 255 (s.meas.failureRun + 1) } }
    exec (.exchangeComplete dt w) s = .next
      (if s.meas.exchange ≠ .exchanging then s.advance dt
      else if good then { s.advance dt with meas := { m with lastRate := w.extractLsb' 8 16, failureRun := 0 } }
      else if 3 ≤ s.meas.failureRun + 1 then raise .sensor failed else failed)) ∧
  ∀ (dt : Nat) (s : State), exec (.exchangeRestart dt) s = .next (if s.meas.exchange = .restarting then
      { s.advance dt with meas := { s.meas with
        exchange := .exchanging, received := 0, rateCs := false, rateSclk := .running, rateMosi := false } }
    else s.advance dt)

/-- The bridged value is v0 + trunc((v1 − v0) × (X − t0) / (t1 − t0)) and lies between the two samples (R99). -/
def Obligations.BridgedValueLiesBetween : Prop :=
  (∀ (x : Stamp) (s0 s1 : Sample), later x s0.stamp = true → later s1.stamp x = true →
    0 < (x - s0.stamp).toNat ∧ (x - s0.stamp).toNat < (s1.stamp - s0.stamp).toNat ∧
    bridge x s0 s1 = s0.value.toInt + ((s1.value.toInt - s0.value.toInt) * ((x - s0.stamp).toNat : Int)).tdiv
      ((s1.stamp - s0.stamp).toNat : Int) ∧
    min s0.value.toInt s1.value.toInt ≤ bridge x s0 s1 ∧ bridge x s0 s1 ≤ max s0.value.toInt s1.value.toInt) ∧
  bridge (BitVec.ofNat 32 (5858 * 512)) { stamp := BitVec.ofNat 32 (5856 * 512), value := BitVec.ofInt 16 (-316) }
    { stamp := BitVec.ofNat 32 (5859 * 512), value := BitVec.ofInt 16 (-312) } = -314 ∧
  bridge (BitVec.ofNat 32 (5858 * 512)) { stamp := BitVec.ofNat 32 (5856 * 512), value := 10 }
    { stamp := BitVec.ofNat 32 (5859 * 512), value := 3 } = 6

/-- The raw effort is S_e / 1024 to the nearest integer, halves upward, within ±2^24; the clamp holds it to the effort
limit and is engaged exactly outside it (R109, R110). -/
def Obligations.RawEffortIsRoundedAndClamped : Prop :=
  (∀ se : Int, rawEffort se = (se + 512) / 1024 ∧
    2 * se < 2 * 1024 * rawEffort se + 1024 ∧ 2 * 1024 * rawEffort se - 1024 ≤ 2 * se ∧
    (-(2 ^ 34) ≤ se → se ≤ 2 ^ 34 → -(2 ^ 24) ≤ rawEffort se ∧ rawEffort se ≤ 2 ^ 24)) ∧
  rawEffort (73 * 1024 + 512) = 74 ∧ rawEffort (-(73 * 1024 + 512)) = -73 ∧
  ∀ (c : Settings) (raw : Int), 1 ≤ c.effortLimit →
    -c.effortLimit ≤ clampEffort c raw ∧ clampEffort c raw ≤ c.effortLimit ∧
    (clampEngaged c raw = false ↔ -c.effortLimit ≤ raw ∧ raw ≤ c.effortLimit) ∧
    (clampEngaged c raw = false → clampEffort c raw = raw) ∧
    (c.effortLimit < raw → clampEffort c raw = c.effortLimit) ∧
    (raw < -c.effortLimit → clampEffort c raw = -c.effortLimit)

/-! ## The drive -/

/-- ARM is accepted in DISARMED and HOLD where the four conditions hold, refused there otherwise and in COAST; DISARM
takes ACTIVE, HOLD and COAST to DISARMED with the integral 0 and the outputs low; both in RUN alone (R137–R139, R146,
R175, R179). -/
def Obligations.ArmAndDisarmAreTaken : Prop :=
  ∀ s : State,
    let refused : State := { s with req := { s.req with refused := min 255 (s.req.refused + 1), lastRefused := some .arm } }
    exec .arm s = .next (if s.loader.phase ≠ .run then s
      else match s.drive.state with
        | .disarmed | .hold =>
          if s.drive.stop.asserted = false ∧ s.drive.attn.asserted = false ∧ s.fault.flags &&& s.stopRoutes = 0 ∧
              s.test.state ≠ .sending ∧ s.test.state ≠ .checking then
            { s with drive := { s.drive with state := .active, drvEn := true } }
          else refused
        | .coast => refused
        | .active | .off => s) ∧
    exec .disarm s = .next (if s.loader.phase ≠ .run then s
      else match s.drive.state with
        | .active | .hold | .coast =>
          { s with
            drive := { s.drive with state := .disarmed, duty := 0, direction := false, pendingSetting := none,
                                    drvEn := false, drvPwm := false, drvDir := false }
            mix := { s.mix with integral := 0 } }
        | .disarmed | .off => s)

/-- STOP_LINE_ASSERTION takes ACTIVE to HOLD or COAST by the stop action, and STOP_LINE_RELEASE takes COAST to DISARMED
with the integral 0; every other state is left as it stands (R135, R140, R141, R146). Each feeds two equal samples to
the filter, and a line already at that level changes the filter alone (log entry 11). -/
def Obligations.StopLineActsOnTheDrive : Prop :=
  ∀ (dt : Nat) (s : State),
    let u := s.advance dt
    let sensed (level : Bool) : DriveUnit := { u.drive with stop := { prev := some level, asserted := level } }
    let idle (st : DriveState) (d : DriveUnit) : DriveUnit :=
      { d with state := st, duty := 0, direction := false, pendingSetting := none, drvEn := false, drvPwm := false
               drvDir := false }
    exec (.stopLineAssertion dt) s = .next (if s.resetLow then s
      else if s.drive.stop.asserted = false ∧ s.drive.state = .active then
        match s.settings with
        | none => { u with drive := sensed true }
        | some c =>
          match c.stopAction with
          | .hold => { u with drive := { sensed true with state := .hold } }
          | .coast => { u with drive := idle .coast (sensed true) }
      else { u with drive := sensed true }) ∧
    exec (.stopLineRelease dt) s = .next (if s.resetLow then s
      else if s.drive.stop.asserted = true ∧ s.drive.state = .coast then
        { u with drive := idle .disarmed (sensed false), mix := { s.mix with integral := 0 } }
      else { u with drive := sensed false })

/-- DRV_ATTN_ASSERTION of a line that was released raises DRIVE_ATTN in every drive state and takes ACTIVE and HOLD to
COAST with the outputs low; DRV_ATTN_RELEASE changes the accepted level alone (R136, R142, R146). Each feeds two equal
samples to the filter, and a line already asserted changes the filter alone (log entry 11). -/
def Obligations.DrvAttnActsOnTheDrive : Prop :=
  ∀ (dt : Nat) (s : State),
    let u := s.advance dt
    let sensed (level : Bool) : DriveUnit := { u.drive with attn := { prev := some level, asserted := level } }
    exec (.drvAttnAssertion dt) s = .next (if s.resetLow then s
      else if s.drive.attn.asserted = true then { u with drive := sensed true }
      else if s.drive.state = .active ∨ s.drive.state = .hold then
        raise .driveAttn { u with drive :=
          { sensed true with state := .coast, duty := 0, direction := false, pendingSetting := none, drvEn := false
                             drvPwm := false, drvDir := false } }
      else raise .driveAttn { u with drive := sensed true }) ∧
    exec (.drvAttnRelease dt) s = .next (if s.resetLow then s else { u with drive := sensed false })

/-- PWM_PERIOD_START applies the pending setting of the current drive state and drives the period from the duty and
direction in force; ON_TIME_END brings DRV_PWM low but for a full duty (R147, R148). -/
def Obligations.PwmPeriodIsDriven : Prop :=
  ∀ (dt : Nat) (s : State),
    let u := s.advance dt
    let driving := s.drive.state = .active ∨ s.drive.state = .hold
    let duty := match s.drive.pendingSetting with
      | some x => if driving ∧ x.state = s.drive.state then x.effort.natAbs * 4000 / 32767 else s.drive.duty
      | none => s.drive.duty
    let direction := match s.drive.pendingSetting with
      | some x => if driving ∧ x.state = s.drive.state then decide (0 ≤ x.effort) else s.drive.direction
      | none => s.drive.direction
    exec (.pwmPeriodStart dt) s = .next (if s.resetLow then s
      else { u with drive := { s.drive with
        pendingSetting := none, duty := duty, direction := direction, pwmTimer := some 0
        drvPwm := if driving then decide (0 < duty) else s.drive.drvPwm
        drvDir := if driving then direction else s.drive.drvDir } }) ∧
    exec (.onTimeEnd dt) s = .next (if s.resetLow then s
      else { u with drive := { u.drive with drvPwm := if s.drive.duty < 4000 then false else s.drive.drvPwm } })

/-! ## Tests and requests -/

/-- TEST_START is accepted in DISARMED, where the named sender sends and every other station checks, and refused in
ACTIVE, HOLD and COAST; TEST_STOP naming the running test's sender ends the test (R182–R184, R191). The start leaves the
result of the test before and sets a sender's quiet timer to 0 too (log entry 28). -/
def Obligations.TestStartsAndStops : Prop :=
  ∀ (sender : Station) (count : Half) (origin : Station) (c : Settings) (s : State), s.settings = some c →
    exec (.testStart sender count origin) s = .next (if s.loader.phase ≠ .run then s
      else match s.drive.state with
        | .disarmed => { s with test := { s.test with
            state := if sender = c.station then .sending else .checking
            sender := sender, frameCount := count.toNat, index := 1, due := false, quiet := 0, errors := 0, owed := 0
            pulse := .none, pass := true } }
        | .active | .hold | .coast =>
          { s with req := { s.req with refused := min 255 (s.req.refused + 1), lastRefused := some .testStart } }
        | .off => s) ∧
    exec (.testStop sender) s = .next
      (if s.loader.phase = .run ∧ ((s.test.state = .sending ∧ sender = c.station) ∨
          (s.test.state = .checking ∧ sender = s.test.sender)) then
        { s with test := { s.test with
          state := .done, result := decide (s.test.errors = 0), pass := decide (s.test.errors = 0), owed := 0
          pulse := .none, due := false } }
      else s)

/-- A counted error adds 1 to the error count and to the pulses owed and starts a pulse where none is in progress;
PASS_PULSE_END ends a half of a pulse; TEST_QUIET_TIMEOUT adds an error and ends the test; TEST_BLOCK judges a frame of
the sender by its index and pattern (R185, R187, R189–R191; log entries 10 and 18). -/
def Obligations.TestErrorsAreCounted : Prop :=
  (∀ (n : Nat) (t : TestUnit),
    let owed := min 255 (t.owed + n)
    let starts := (t.state = .sending ∨ t.state = .checking) ∧ 0 < owed ∧ t.pulse = .none
    t.countErrors n = { t with
      errors := min 65535 (t.errors + n), owed := owed
      pulse := if starts then .low else t.pulse, pass := if starts then false else t.pass }) ∧
  (∀ (dt : Nat) (s : State),
    let running := s.test.state = .sending ∨ s.test.state = .checking
    exec (.passPulseEnd dt) s = .next { s.advance dt with test := match s.test.pulse with
      | .none => s.test
      | .low => { s.test with pulse := .high, pass := true, owed := s.test.owed - 1 }
      | .high => if running ∧ 0 < s.test.owed then { s.test with pulse := .low, pass := false }
          else { s.test with pulse := .none } } ∧
    exec .testQuietTimeout s = .next (if s.test.state = .checking ∧ 32 ≤ s.test.quiet then
        { s with test := { s.test with
          errors := min 65535 (s.test.errors + 1), state := .done, result := false, pass := false, owed := 0
          pulse := .none, due := false } }
      else s)) ∧
  ∀ (sender : Station) (b : TestBlock) (c : Settings) (s : State), s.settings = some c →
    let i := b.index.toNat
    let d := (i + 65535 - s.test.index) % 65535
    let heard : TestUnit := { s.test with quiet := 0 }
    let wrong := if b.pattern = (List.range 32).map (fun k => BitVec.ofNat 8 (i + 37 * k + 90)) then 0 else 1
    let judged : TestUnit := if i = 0 ∨ 32768 ≤ d then heard.countErrors 1
      else { heard.countErrors (d + wrong) with index := if i = 65535 then 1 else i + 1 }
    exec (.testBlock sender b) s = .next
      (if s.loader.phase = .run ∧ sender ≠ c.station ∧ b.pattern.length = 32 ∧ s.test.state = .checking ∧
          sender = s.test.sender then
        { s with test := if b.last then judged.finish else judged }
      else s)

/-- FALLING_EDGE and REQUEST_INPUT_LEVEL_ACCEPTANCE: the first sample of the four inputs becomes their previous sample,
and the second is accepted on every input where it equals the first (log entry 11); an input accepted from high to low
adds its request to the pending list in LISTEN and RUN, in increasing order of input, unless one of that input stands
there; any other acceptance changes the filters alone (R168–R171). -/
def Obligations.RequestInputsMakeRequests : Prop :=
  ∀ (dt : Nat) (first second : BitVec 4) (s : State),
    let level (i : Fin 4) : Option Bool :=
      if first.getLsbD i.val = second.getLsbD i.val then some (second.getLsbD i.val) else (s.req.inputs.get i).level
    let request (i : Fin 4) : Option PendingRequest :=
      match s.settings with
      | none => none
      | some c =>
        let x := c.inputs.get i
        match x.kind with
        | none => none
        | some k =>
          if s.loader.phase = .listen ∨ s.loader.phase = .run then
            some { input := i, kind := k, origin := c.station
                   mask := if k = .testStart ∨ k = .testStop then x.mask ||| stationBit x.sender else x.mask
                   sender := if k = .testStart ∨ k = .testStop then x.sender else 0
                   count := if k = .testStart then x.count else 0 }
          else none
    let joined (list : List PendingRequest) (i : Fin 4) : List PendingRequest :=
      if (s.req.inputs.get i).level = some true ∧ level i = some false ∧ ∀ r ∈ list, r.input ≠ i then
        list ++ (request i).toList
      else list
    let t : State := { s.advance dt with req := { s.req with
      inputs := Vector.ofFn fun i => { prev := some (second.getLsbD i.val), level := level i }
      list := [0, 1, 2, 3].foldl joined s.req.list } }
    exec (.fallingEdge dt { first := first, second := second }) s = .next (if s.resetLow then s else t) ∧
    exec (.requestInputLevelAcceptance dt first second) s = .next (if s.resetLow then s else t)

/-- CLEAR clears every flag but CONFIG, TWIN and those whose condition fails, leaves the note, returns the slots in
CLASH to EMPTY and empties the noise bucket; QUERY sets the status-pending mark; both in RUN alone (R41, R89, R164,
R165, R175, R177). -/
def Obligations.ClearAndQueryAreTaken : Prop :=
  ∀ s : State,
    (s.loader.phase ≠ .run → exec .clear s = .next s ∧ exec .query s = .next s) ∧
    (s.loader.phase = .run →
      exec .query s = .next { s with req := { s.req with statusPending := true } } ∧
      ∃ t, exec .clear s = .next t ∧
        t = { s with
          fault := { s.fault with flags := t.fault.flags, faultPin := t.fault.faultPin, stopPull := t.fault.stopPull }
          listen := t.listen, rx := { s.rx with noiseBucket := 0 } } ∧
        (∀ f : Flag, hasFlag t.fault.flags f = (hasFlag s.fault.flags f && match f with
          | .config | .twin => true
          | .sensor => decide (s.meas.failureRun ≠ 0)
          | .limit => s.mix.atHigh || s.mix.atLow
          | .driveAttn => s.drive.attn.asserted
          | .clash | .feedLost | .lockLost | .period | .linkNoise | .contention | .encoder | .saturation | .remote =>
            false)) ∧
        t.fault.faultPin = decide (t.fault.flags = 0) ∧
        t.fault.stopPull = decide (t.fault.flags &&& s.stopRoutes ≠ 0) ∧
        ∀ k : Fin 12, t.listen.get k = if (s.listen.get k).state = .clash then
            { s.listen.get k with state := .empty, publisher := none }
          else s.listen.get k)

/-! ## Formats -/

/-- A heard stretch is a clean frame exactly when it holds whole bytes as many as its length field calls for, at most 64
of payload, a class other than 3 and the right check, and its fields are then those of section 13.2 (R3, R39, R204); so
what a station sends, heard whole, gives its header fields and its payload back. -/
def Obligations.HeardFrameIsReadByItsBytes : Prop :=
  (∀ heard : Heard,
    let b := heard.bytes
    let n := (imageByte b 3).toNat
    readFrame heard =
      if heard.stray = false ∧ 10 ≤ b.length ∧ b.length = 10 + n ∧ n ≤ 64 ∧ (imageByte b 0).toNat / 64 ≠ 3 ∧
          crc16 (b.take (8 + n)) = imageHalf b (8 + n) then
        some { cls := (imageByte b 0).toNat / 64, station := BitVec.ofNat 5 ((imageByte b 0).toNat / 2)
               kind := if (imageByte b 0).toNat % 2 = 1 then .test else .data, period := imageByte b 1
               sequence := imageByte b 2, length := n, stamp := imageWord b 4, payload := (b.drop 8).take n }
      else none) ∧
  ∀ f : FrameCopy, f.payload.length ≤ 64 →
    readFrame { bytes := f.bytes, stray := false } = some
      { cls := match f.cls with
          | .fault => 0
          | .demand => 1
          | .routine => 2
        station := f.station, kind := f.kind, period := BitVec.ofNat 8 f.period, sequence := f.sequence
        length := f.payload.length, stamp := f.stamp, payload := f.payload } ∧
    readFrame { bytes := f.bytes, stray := true } = none

/-- A DATA frame hands on the usable records of its payload, a TEST frame its test block. The walk of a payload takes
record after record, steps over one that is not usable by its length, and ends at a length of 0 or 1, at one that runs
past the end and at fewer than 2 bytes; a test block is 37 bytes, its last flag any value but 0 (R45, R46, R205). Every
field of a record and of the test block stands at its offset of section 13.2, most significant byte first. So
the payload of a sent frame is read back in order, every field as it was, but of a STATUS record, which has no owner,
only that it is there (sections 13.1 and 13.2). -/
def Obligations.PayloadIsWalkedByItsBytes : Prop :=
  (∀ (payload : List Byte),
    (payload.length < 2 → walk payload = []) ∧
    ∀ (kind length : Byte) (rest : List Byte), payload = kind :: length :: rest →
      walk payload =
        if length.toNat < 2 ∨ payload.length < length.toNat then []
        else (readRecord kind (rest.take (length.toNat - 2))).toList ++ walk (payload.drop length.toNat)) ∧
  (∀ (b : List Byte) (i : Nat), imageByte b i = (b[i]?).getD 0 ∧
    (imageHalf b i).toNat = 2 ^ 8 * (imageByte b i).toNat + (imageByte b (i + 1)).toNat ∧
    (imageWord b i).toNat = 2 ^ 16 * (imageHalf b i).toNat + (imageHalf b (i + 2)).toNat) ∧
  (∀ (kind length : Byte) (body : List Byte),
    let b := kind :: length :: body
    let n := (imageByte b 3).toNat
    let code := (imageByte b 2).toNat
    ((readRecord kind body).isSome = true ↔
      (kind = 1 ∧ (n = 1 ∨ n = 2 ∨ n = 4) ∧ b.length = 9 + 2 * n) ∨ (kind = 2 ∧ b.length = 10) ∨
      (kind = 3 ∧ b.length = 11 ∧ 1 ≤ code ∧ code ≤ 6 ∧ (5 ≤ code → (imageByte b 8).toNat ≤ 31)) ∨
      (kind = 4 ∧ b.length = 40)) ∧
    ∀ r, readRecord kind body = some r → match r with
      | .tag x => kind = 1 ∧ x.tag = imageByte b 2 ∧ x.values.length = n ∧ x.spacing = imageByte b 4 ∧
          x.newest = imageWord b 5 ∧ ∀ (j : Nat) (v : Half), x.values[j]? = some v → v = imageHalf b (9 + 2 * j)
      | .note x => kind = 2 ∧ x.newlyRaised = (imageHalf b 2).truncate 14 ∧ x.allSet = (imageHalf b 4).truncate 14 ∧
          x.firstRaise = imageWord b 6
      | .request x => kind = 3 ∧ x.origin = imageByte b 3 ∧ x.mask = imageWord b 4 ∧ x.sender = imageByte b 8 ∧
          x.count = imageHalf b 9 ∧ code = match x.kind with
            | .arm => 1
            | .disarm => 2
            | .clear => 3
            | .query => 4
            | .testStart => 5
            | .testStop => 6
      | .status => kind = 4) ∧
  (∀ f : HeardFrame, f.handed = match f.kind with
    | .data => (walk f.payload).map Handed.record
    | .test => ((readTestBlock f.payload).map Handed.block).toList) ∧
  (∀ payload : List Byte, (readTestBlock payload).isSome = decide (payload.length = 37) ∧
    ∀ b, readTestBlock payload = some b → b.index = imageHalf payload 0 ∧ b.count = imageHalf payload 2 ∧
      b.last = decide (imageByte payload 4 ≠ 0) ∧ b.pattern = payload.drop 5) ∧
  (∀ f : FrameCopy, f.test = none →
    (∀ r ∈ f.tags, r.values.length = 1 ∨ r.values.length = 2 ∨ r.values.length = 4) →
    walk f.payload = (f.note.map Record.note).toList ++ f.requests.map (fun r => Record.request r.toRecord) ++
      (f.status.map fun _ => Record.status).toList ++ f.tags.map Record.tag) ∧
  ∀ b : TestBlock, b.pattern.length = 32 → (encodeTest b).length = 37 ∧ readTestBlock (encodeTest b) = some b

/-! ## What every step keeps -/

/-- Every step keeps the phase, the settings and the states of the blocks in agreement (R9, R22, R36, R133, R134,
R193). -/
def Obligations.StepKeepsThePhasesInAgreement : Prop :=
  ∀ s t : State, step s = .next t → s.PhasesAgree → t.PhasesAgree

/-- Every step keeps FAULT low exactly while a flag is set, STOP pulled exactly while a STOP-routed flag is set, and the
note in one of its three states (R155–R161). -/
def Obligations.StepKeepsTheFaultPinsAndNote : Prop :=
  ∀ s t : State, step s = .next t →
    (s.FaultPinsFollow → t.FaultPinsFollow) ∧ (s.fault.NoteStateLegal → t.fault.NoteStateLegal)

/-- Every step keeps a station whose TWIN is set SILENT or MUTED, and TWIN set in a MUTED one (R10, R42). -/
def Obligations.StepKeepsATwinSilent : Prop :=
  ∀ s t : State, step s = .next t → s.TwinSilences → t.TwinSilences

/-- Every step keeps DRV_EN high exactly in ACTIVE and HOLD, the outputs low elsewhere, the integral 0 in OFF and
DISARMED, and the rate sensor port with the exchange: RATE_CS low and RATE_SCLK running within one alone, RATE_MOSI low
(R115, R122, R128, R132, R146). -/
def Obligations.StepKeepsTheOutputsWithTheDriveState : Prop :=
  ∀ s t : State, step s = .next t →
    (s.drive.OutputsFollow → t.drive.OutputsFollow) ∧ (s.IntegralClearedWhenIdle → t.IntegralClearedWhenIdle) ∧
    (s.meas.PortFollows → t.meas.PortFollows)

/-- Every step keeps the counts of CountsInRange within their ranges (R16–R18, R27, R29, R32, R40, R41, R47, R70, R111,
R127, R179, R181, R189, R190, R195, R201); and, with the settings legal, the beat timer at most at its interval and
every accumulator below its step (R55, R71). -/
def Obligations.StepKeepsTheCountsInRange : Prop :=
  ∀ s t : State, step s = .next t →
    (s.CountsInRange → t.CountsInRange) ∧
    (s.PhasesAgree → s.SettingsLegal → s.PublisherInRange → t.PublisherInRange)

/-- Every step keeps every listen slot as R76 and R83 allow it: at most 8 samples, at least one in LIVE and AGED, none
in CLASH, of a named publisher; and the stamps of every ring rise, where the settings are legal and no sample has
become future by the clock having run 2^31 µs past it (R81, R83; log entry 3: how far the clock runs between ticks is
the sender's). -/
def Obligations.StepKeepsTheSlotsLegal : Prop :=
  ∀ s t : State, step s = .next t →
    (s.SlotsLegal → t.SlotsLegal) ∧ (s.SettingsLegal → s.RingsRise → s.NoneFutureAt t → t.RingsRise)

/-- Every step keeps at most one request per input in the pending list, and at most one outbox entry per tag, each of an
enabled publish entry (R61, R171). -/
def Obligations.StepKeepsTheListsWithoutDoubles : Prop :=
  ∀ s t : State, step s = .next t →
    (s.req.OnePerInput → t.req.OnePerInput) ∧ (s.PhasesAgree → s.OutboxLegal → t.OutboxLegal)

/-- Every step leaves the roster record of this station's own number as reset leaves it (R30, section 3.5). -/
def Obligations.StepKeepsTheOwnRecordUntouched : Prop :=
  ∀ s t : State, step s = .next t → s.PhasesAgree → s.OwnRecordUntouched → t.OwnRecordUntouched

/-- Every step keeps the settings in force within the ranges of R197 and consistent, and the effort, the integral, the
pending setting and the duty within their limits (R110, R112, R114, R147, R197, R198). -/
def Obligations.StepKeepsTheEffortBounded : Prop :=
  ∀ s t : State, step s = .next t →
    (s.SettingsLegal → t.SettingsLegal) ∧ (s.PhasesAgree → s.SettingsLegal → s.EffortBounded → t.EffortBounded)

/-- The state after reset has every property that the steps keep. -/
def Obligations.ResetHasEveryInvariant : Prop :=
  State.reset.PhasesAgree ∧ State.reset.FaultPinsFollow ∧ State.reset.fault.NoteStateLegal ∧
  State.reset.TwinSilences ∧ State.reset.drive.OutputsFollow ∧ State.reset.IntegralClearedWhenIdle ∧
  State.reset.meas.PortFollows ∧ State.reset.CountsInRange ∧ State.reset.PublisherInRange ∧
  State.reset.SlotsLegal ∧ State.reset.RingsRise ∧ State.reset.req.OnePerInput ∧ State.reset.OutboxLegal ∧
  State.reset.OwnRecordUntouched ∧ State.reset.SettingsLegal ∧ State.reset.EffortBounded
end

