-- ==== Sys2Proof/Laws/State.lean ====
section
/-! SUPPORT. One lemma per block per writer of State, true by rfl, so that no proof unfolds a record update; and when
two states are equal. -/

namespace Sys2Proof.Machine

variable (s : State)


/-! ### setResetLow -/

@[simp] theorem State.resetLow_setResetLow (x : Bool) : (s.setResetLow x).resetLow = x := rfl
@[simp] theorem State.settings_setResetLow (x : Bool) : (s.setResetLow x).settings = s.settings := rfl
@[simp] theorem State.line_setResetLow (x : Bool) : (s.setResetLow x).line = s.line := rfl
@[simp] theorem State.bus_setResetLow (x : Bool) : (s.setResetLow x).bus = s.bus := rfl
@[simp] theorem State.time_setResetLow (x : Bool) : (s.setResetLow x).time = s.time := rfl
@[simp] theorem State.rx_setResetLow (x : Bool) : (s.setResetLow x).rx = s.rx := rfl
@[simp] theorem State.pub_setResetLow (x : Bool) : (s.setResetLow x).pub = s.pub := rfl
@[simp] theorem State.listen_setResetLow (x : Bool) : (s.setResetLow x).listen = s.listen := rfl
@[simp] theorem State.mix_setResetLow (x : Bool) : (s.setResetLow x).mix = s.mix := rfl
@[simp] theorem State.meas_setResetLow (x : Bool) : (s.setResetLow x).meas = s.meas := rfl
@[simp] theorem State.drive_setResetLow (x : Bool) : (s.setResetLow x).drive = s.drive := rfl
@[simp] theorem State.fault_setResetLow (x : Bool) : (s.setResetLow x).fault = s.fault := rfl
@[simp] theorem State.req_setResetLow (x : Bool) : (s.setResetLow x).req = s.req := rfl
@[simp] theorem State.test_setResetLow (x : Bool) : (s.setResetLow x).test = s.test := rfl
@[simp] theorem State.loader_setResetLow (x : Bool) : (s.setResetLow x).loader = s.loader := rfl
@[simp] theorem State.pending_setResetLow (x : Bool) : (s.setResetLow x).pending = s.pending := rfl

/-! ### setSettings -/

@[simp] theorem State.resetLow_setSettings (x : Option Settings) : (s.setSettings x).resetLow = s.resetLow := rfl
@[simp] theorem State.settings_setSettings (x : Option Settings) : (s.setSettings x).settings = x := rfl
@[simp] theorem State.line_setSettings (x : Option Settings) : (s.setSettings x).line = s.line := rfl
@[simp] theorem State.bus_setSettings (x : Option Settings) : (s.setSettings x).bus = s.bus := rfl
@[simp] theorem State.time_setSettings (x : Option Settings) : (s.setSettings x).time = s.time := rfl
@[simp] theorem State.rx_setSettings (x : Option Settings) : (s.setSettings x).rx = s.rx := rfl
@[simp] theorem State.pub_setSettings (x : Option Settings) : (s.setSettings x).pub = s.pub := rfl
@[simp] theorem State.listen_setSettings (x : Option Settings) : (s.setSettings x).listen = s.listen := rfl
@[simp] theorem State.mix_setSettings (x : Option Settings) : (s.setSettings x).mix = s.mix := rfl
@[simp] theorem State.meas_setSettings (x : Option Settings) : (s.setSettings x).meas = s.meas := rfl
@[simp] theorem State.drive_setSettings (x : Option Settings) : (s.setSettings x).drive = s.drive := rfl
@[simp] theorem State.fault_setSettings (x : Option Settings) : (s.setSettings x).fault = s.fault := rfl
@[simp] theorem State.req_setSettings (x : Option Settings) : (s.setSettings x).req = s.req := rfl
@[simp] theorem State.test_setSettings (x : Option Settings) : (s.setSettings x).test = s.test := rfl
@[simp] theorem State.loader_setSettings (x : Option Settings) : (s.setSettings x).loader = s.loader := rfl
@[simp] theorem State.pending_setSettings (x : Option Settings) : (s.setSettings x).pending = s.pending := rfl

/-! ### setLine -/

@[simp] theorem State.resetLow_setLine (x : Line) : (s.setLine x).resetLow = s.resetLow := rfl
@[simp] theorem State.settings_setLine (x : Line) : (s.setLine x).settings = s.settings := rfl
@[simp] theorem State.line_setLine (x : Line) : (s.setLine x).line = x := rfl
@[simp] theorem State.bus_setLine (x : Line) : (s.setLine x).bus = s.bus := rfl
@[simp] theorem State.time_setLine (x : Line) : (s.setLine x).time = s.time := rfl
@[simp] theorem State.rx_setLine (x : Line) : (s.setLine x).rx = s.rx := rfl
@[simp] theorem State.pub_setLine (x : Line) : (s.setLine x).pub = s.pub := rfl
@[simp] theorem State.listen_setLine (x : Line) : (s.setLine x).listen = s.listen := rfl
@[simp] theorem State.mix_setLine (x : Line) : (s.setLine x).mix = s.mix := rfl
@[simp] theorem State.meas_setLine (x : Line) : (s.setLine x).meas = s.meas := rfl
@[simp] theorem State.drive_setLine (x : Line) : (s.setLine x).drive = s.drive := rfl
@[simp] theorem State.fault_setLine (x : Line) : (s.setLine x).fault = s.fault := rfl
@[simp] theorem State.req_setLine (x : Line) : (s.setLine x).req = s.req := rfl
@[simp] theorem State.test_setLine (x : Line) : (s.setLine x).test = s.test := rfl
@[simp] theorem State.loader_setLine (x : Line) : (s.setLine x).loader = s.loader := rfl
@[simp] theorem State.pending_setLine (x : Line) : (s.setLine x).pending = s.pending := rfl

/-! ### setBus -/

@[simp] theorem State.resetLow_setBus (x : BusController) : (s.setBus x).resetLow = s.resetLow := rfl
@[simp] theorem State.settings_setBus (x : BusController) : (s.setBus x).settings = s.settings := rfl
@[simp] theorem State.line_setBus (x : BusController) : (s.setBus x).line = s.line := rfl
@[simp] theorem State.bus_setBus (x : BusController) : (s.setBus x).bus = x := rfl
@[simp] theorem State.time_setBus (x : BusController) : (s.setBus x).time = s.time := rfl
@[simp] theorem State.rx_setBus (x : BusController) : (s.setBus x).rx = s.rx := rfl
@[simp] theorem State.pub_setBus (x : BusController) : (s.setBus x).pub = s.pub := rfl
@[simp] theorem State.listen_setBus (x : BusController) : (s.setBus x).listen = s.listen := rfl
@[simp] theorem State.mix_setBus (x : BusController) : (s.setBus x).mix = s.mix := rfl
@[simp] theorem State.meas_setBus (x : BusController) : (s.setBus x).meas = s.meas := rfl
@[simp] theorem State.drive_setBus (x : BusController) : (s.setBus x).drive = s.drive := rfl
@[simp] theorem State.fault_setBus (x : BusController) : (s.setBus x).fault = s.fault := rfl
@[simp] theorem State.req_setBus (x : BusController) : (s.setBus x).req = s.req := rfl
@[simp] theorem State.test_setBus (x : BusController) : (s.setBus x).test = s.test := rfl
@[simp] theorem State.loader_setBus (x : BusController) : (s.setBus x).loader = s.loader := rfl
@[simp] theorem State.pending_setBus (x : BusController) : (s.setBus x).pending = s.pending := rfl

/-! ### setTime -/

@[simp] theorem State.resetLow_setTime (x : TimeUnit) : (s.setTime x).resetLow = s.resetLow := rfl
@[simp] theorem State.settings_setTime (x : TimeUnit) : (s.setTime x).settings = s.settings := rfl
@[simp] theorem State.line_setTime (x : TimeUnit) : (s.setTime x).line = s.line := rfl
@[simp] theorem State.bus_setTime (x : TimeUnit) : (s.setTime x).bus = s.bus := rfl
@[simp] theorem State.time_setTime (x : TimeUnit) : (s.setTime x).time = x := rfl
@[simp] theorem State.rx_setTime (x : TimeUnit) : (s.setTime x).rx = s.rx := rfl
@[simp] theorem State.pub_setTime (x : TimeUnit) : (s.setTime x).pub = s.pub := rfl
@[simp] theorem State.listen_setTime (x : TimeUnit) : (s.setTime x).listen = s.listen := rfl
@[simp] theorem State.mix_setTime (x : TimeUnit) : (s.setTime x).mix = s.mix := rfl
@[simp] theorem State.meas_setTime (x : TimeUnit) : (s.setTime x).meas = s.meas := rfl
@[simp] theorem State.drive_setTime (x : TimeUnit) : (s.setTime x).drive = s.drive := rfl
@[simp] theorem State.fault_setTime (x : TimeUnit) : (s.setTime x).fault = s.fault := rfl
@[simp] theorem State.req_setTime (x : TimeUnit) : (s.setTime x).req = s.req := rfl
@[simp] theorem State.test_setTime (x : TimeUnit) : (s.setTime x).test = s.test := rfl
@[simp] theorem State.loader_setTime (x : TimeUnit) : (s.setTime x).loader = s.loader := rfl
@[simp] theorem State.pending_setTime (x : TimeUnit) : (s.setTime x).pending = s.pending := rfl

/-! ### setRx -/

@[simp] theorem State.resetLow_setRx (x : Reception) : (s.setRx x).resetLow = s.resetLow := rfl
@[simp] theorem State.settings_setRx (x : Reception) : (s.setRx x).settings = s.settings := rfl
@[simp] theorem State.line_setRx (x : Reception) : (s.setRx x).line = s.line := rfl
@[simp] theorem State.bus_setRx (x : Reception) : (s.setRx x).bus = s.bus := rfl
@[simp] theorem State.time_setRx (x : Reception) : (s.setRx x).time = s.time := rfl
@[simp] theorem State.rx_setRx (x : Reception) : (s.setRx x).rx = x := rfl
@[simp] theorem State.pub_setRx (x : Reception) : (s.setRx x).pub = s.pub := rfl
@[simp] theorem State.listen_setRx (x : Reception) : (s.setRx x).listen = s.listen := rfl
@[simp] theorem State.mix_setRx (x : Reception) : (s.setRx x).mix = s.mix := rfl
@[simp] theorem State.meas_setRx (x : Reception) : (s.setRx x).meas = s.meas := rfl
@[simp] theorem State.drive_setRx (x : Reception) : (s.setRx x).drive = s.drive := rfl
@[simp] theorem State.fault_setRx (x : Reception) : (s.setRx x).fault = s.fault := rfl
@[simp] theorem State.req_setRx (x : Reception) : (s.setRx x).req = s.req := rfl
@[simp] theorem State.test_setRx (x : Reception) : (s.setRx x).test = s.test := rfl
@[simp] theorem State.loader_setRx (x : Reception) : (s.setRx x).loader = s.loader := rfl
@[simp] theorem State.pending_setRx (x : Reception) : (s.setRx x).pending = s.pending := rfl

/-! ### setPub -/

@[simp] theorem State.resetLow_setPub (x : Publisher) : (s.setPub x).resetLow = s.resetLow := rfl
@[simp] theorem State.settings_setPub (x : Publisher) : (s.setPub x).settings = s.settings := rfl
@[simp] theorem State.line_setPub (x : Publisher) : (s.setPub x).line = s.line := rfl
@[simp] theorem State.bus_setPub (x : Publisher) : (s.setPub x).bus = s.bus := rfl
@[simp] theorem State.time_setPub (x : Publisher) : (s.setPub x).time = s.time := rfl
@[simp] theorem State.rx_setPub (x : Publisher) : (s.setPub x).rx = s.rx := rfl
@[simp] theorem State.pub_setPub (x : Publisher) : (s.setPub x).pub = x := rfl
@[simp] theorem State.listen_setPub (x : Publisher) : (s.setPub x).listen = s.listen := rfl
@[simp] theorem State.mix_setPub (x : Publisher) : (s.setPub x).mix = s.mix := rfl
@[simp] theorem State.meas_setPub (x : Publisher) : (s.setPub x).meas = s.meas := rfl
@[simp] theorem State.drive_setPub (x : Publisher) : (s.setPub x).drive = s.drive := rfl
@[simp] theorem State.fault_setPub (x : Publisher) : (s.setPub x).fault = s.fault := rfl
@[simp] theorem State.req_setPub (x : Publisher) : (s.setPub x).req = s.req := rfl
@[simp] theorem State.test_setPub (x : Publisher) : (s.setPub x).test = s.test := rfl
@[simp] theorem State.loader_setPub (x : Publisher) : (s.setPub x).loader = s.loader := rfl
@[simp] theorem State.pending_setPub (x : Publisher) : (s.setPub x).pending = s.pending := rfl

/-! ### setListen -/

@[simp] theorem State.resetLow_setListen (x : Vector Slot 12) : (s.setListen x).resetLow = s.resetLow := rfl
@[simp] theorem State.settings_setListen (x : Vector Slot 12) : (s.setListen x).settings = s.settings := rfl
@[simp] theorem State.line_setListen (x : Vector Slot 12) : (s.setListen x).line = s.line := rfl
@[simp] theorem State.bus_setListen (x : Vector Slot 12) : (s.setListen x).bus = s.bus := rfl
@[simp] theorem State.time_setListen (x : Vector Slot 12) : (s.setListen x).time = s.time := rfl
@[simp] theorem State.rx_setListen (x : Vector Slot 12) : (s.setListen x).rx = s.rx := rfl
@[simp] theorem State.pub_setListen (x : Vector Slot 12) : (s.setListen x).pub = s.pub := rfl
@[simp] theorem State.listen_setListen (x : Vector Slot 12) : (s.setListen x).listen = x := rfl
@[simp] theorem State.mix_setListen (x : Vector Slot 12) : (s.setListen x).mix = s.mix := rfl
@[simp] theorem State.meas_setListen (x : Vector Slot 12) : (s.setListen x).meas = s.meas := rfl
@[simp] theorem State.drive_setListen (x : Vector Slot 12) : (s.setListen x).drive = s.drive := rfl
@[simp] theorem State.fault_setListen (x : Vector Slot 12) : (s.setListen x).fault = s.fault := rfl
@[simp] theorem State.req_setListen (x : Vector Slot 12) : (s.setListen x).req = s.req := rfl
@[simp] theorem State.test_setListen (x : Vector Slot 12) : (s.setListen x).test = s.test := rfl
@[simp] theorem State.loader_setListen (x : Vector Slot 12) : (s.setListen x).loader = s.loader := rfl
@[simp] theorem State.pending_setListen (x : Vector Slot 12) : (s.setListen x).pending = s.pending := rfl

/-! ### setMix -/

@[simp] theorem State.resetLow_setMix (x : MixUnit) : (s.setMix x).resetLow = s.resetLow := rfl
@[simp] theorem State.settings_setMix (x : MixUnit) : (s.setMix x).settings = s.settings := rfl
@[simp] theorem State.line_setMix (x : MixUnit) : (s.setMix x).line = s.line := rfl
@[simp] theorem State.bus_setMix (x : MixUnit) : (s.setMix x).bus = s.bus := rfl
@[simp] theorem State.time_setMix (x : MixUnit) : (s.setMix x).time = s.time := rfl
@[simp] theorem State.rx_setMix (x : MixUnit) : (s.setMix x).rx = s.rx := rfl
@[simp] theorem State.pub_setMix (x : MixUnit) : (s.setMix x).pub = s.pub := rfl
@[simp] theorem State.listen_setMix (x : MixUnit) : (s.setMix x).listen = s.listen := rfl
@[simp] theorem State.mix_setMix (x : MixUnit) : (s.setMix x).mix = x := rfl
@[simp] theorem State.meas_setMix (x : MixUnit) : (s.setMix x).meas = s.meas := rfl
@[simp] theorem State.drive_setMix (x : MixUnit) : (s.setMix x).drive = s.drive := rfl
@[simp] theorem State.fault_setMix (x : MixUnit) : (s.setMix x).fault = s.fault := rfl
@[simp] theorem State.req_setMix (x : MixUnit) : (s.setMix x).req = s.req := rfl
@[simp] theorem State.test_setMix (x : MixUnit) : (s.setMix x).test = s.test := rfl
@[simp] theorem State.loader_setMix (x : MixUnit) : (s.setMix x).loader = s.loader := rfl
@[simp] theorem State.pending_setMix (x : MixUnit) : (s.setMix x).pending = s.pending := rfl

/-! ### setMeas -/

@[simp] theorem State.resetLow_setMeas (x : Measurement) : (s.setMeas x).resetLow = s.resetLow := rfl
@[simp] theorem State.settings_setMeas (x : Measurement) : (s.setMeas x).settings = s.settings := rfl
@[simp] theorem State.line_setMeas (x : Measurement) : (s.setMeas x).line = s.line := rfl
@[simp] theorem State.bus_setMeas (x : Measurement) : (s.setMeas x).bus = s.bus := rfl
@[simp] theorem State.time_setMeas (x : Measurement) : (s.setMeas x).time = s.time := rfl
@[simp] theorem State.rx_setMeas (x : Measurement) : (s.setMeas x).rx = s.rx := rfl
@[simp] theorem State.pub_setMeas (x : Measurement) : (s.setMeas x).pub = s.pub := rfl
@[simp] theorem State.listen_setMeas (x : Measurement) : (s.setMeas x).listen = s.listen := rfl
@[simp] theorem State.mix_setMeas (x : Measurement) : (s.setMeas x).mix = s.mix := rfl
@[simp] theorem State.meas_setMeas (x : Measurement) : (s.setMeas x).meas = x := rfl
@[simp] theorem State.drive_setMeas (x : Measurement) : (s.setMeas x).drive = s.drive := rfl
@[simp] theorem State.fault_setMeas (x : Measurement) : (s.setMeas x).fault = s.fault := rfl
@[simp] theorem State.req_setMeas (x : Measurement) : (s.setMeas x).req = s.req := rfl
@[simp] theorem State.test_setMeas (x : Measurement) : (s.setMeas x).test = s.test := rfl
@[simp] theorem State.loader_setMeas (x : Measurement) : (s.setMeas x).loader = s.loader := rfl
@[simp] theorem State.pending_setMeas (x : Measurement) : (s.setMeas x).pending = s.pending := rfl

/-! ### setDrive -/

@[simp] theorem State.resetLow_setDrive (x : DriveUnit) : (s.setDrive x).resetLow = s.resetLow := rfl
@[simp] theorem State.settings_setDrive (x : DriveUnit) : (s.setDrive x).settings = s.settings := rfl
@[simp] theorem State.line_setDrive (x : DriveUnit) : (s.setDrive x).line = s.line := rfl
@[simp] theorem State.bus_setDrive (x : DriveUnit) : (s.setDrive x).bus = s.bus := rfl
@[simp] theorem State.time_setDrive (x : DriveUnit) : (s.setDrive x).time = s.time := rfl
@[simp] theorem State.rx_setDrive (x : DriveUnit) : (s.setDrive x).rx = s.rx := rfl
@[simp] theorem State.pub_setDrive (x : DriveUnit) : (s.setDrive x).pub = s.pub := rfl
@[simp] theorem State.listen_setDrive (x : DriveUnit) : (s.setDrive x).listen = s.listen := rfl
@[simp] theorem State.mix_setDrive (x : DriveUnit) : (s.setDrive x).mix = s.mix := rfl
@[simp] theorem State.meas_setDrive (x : DriveUnit) : (s.setDrive x).meas = s.meas := rfl
@[simp] theorem State.drive_setDrive (x : DriveUnit) : (s.setDrive x).drive = x := rfl
@[simp] theorem State.fault_setDrive (x : DriveUnit) : (s.setDrive x).fault = s.fault := rfl
@[simp] theorem State.req_setDrive (x : DriveUnit) : (s.setDrive x).req = s.req := rfl
@[simp] theorem State.test_setDrive (x : DriveUnit) : (s.setDrive x).test = s.test := rfl
@[simp] theorem State.loader_setDrive (x : DriveUnit) : (s.setDrive x).loader = s.loader := rfl
@[simp] theorem State.pending_setDrive (x : DriveUnit) : (s.setDrive x).pending = s.pending := rfl

/-! ### setFault -/

@[simp] theorem State.resetLow_setFault (x : FaultUnit) : (s.setFault x).resetLow = s.resetLow := rfl
@[simp] theorem State.settings_setFault (x : FaultUnit) : (s.setFault x).settings = s.settings := rfl
@[simp] theorem State.line_setFault (x : FaultUnit) : (s.setFault x).line = s.line := rfl
@[simp] theorem State.bus_setFault (x : FaultUnit) : (s.setFault x).bus = s.bus := rfl
@[simp] theorem State.time_setFault (x : FaultUnit) : (s.setFault x).time = s.time := rfl
@[simp] theorem State.rx_setFault (x : FaultUnit) : (s.setFault x).rx = s.rx := rfl
@[simp] theorem State.pub_setFault (x : FaultUnit) : (s.setFault x).pub = s.pub := rfl
@[simp] theorem State.listen_setFault (x : FaultUnit) : (s.setFault x).listen = s.listen := rfl
@[simp] theorem State.mix_setFault (x : FaultUnit) : (s.setFault x).mix = s.mix := rfl
@[simp] theorem State.meas_setFault (x : FaultUnit) : (s.setFault x).meas = s.meas := rfl
@[simp] theorem State.drive_setFault (x : FaultUnit) : (s.setFault x).drive = s.drive := rfl
@[simp] theorem State.fault_setFault (x : FaultUnit) : (s.setFault x).fault = x := rfl
@[simp] theorem State.req_setFault (x : FaultUnit) : (s.setFault x).req = s.req := rfl
@[simp] theorem State.test_setFault (x : FaultUnit) : (s.setFault x).test = s.test := rfl
@[simp] theorem State.loader_setFault (x : FaultUnit) : (s.setFault x).loader = s.loader := rfl
@[simp] theorem State.pending_setFault (x : FaultUnit) : (s.setFault x).pending = s.pending := rfl

/-! ### setReq -/

@[simp] theorem State.resetLow_setReq (x : RequestUnit) : (s.setReq x).resetLow = s.resetLow := rfl
@[simp] theorem State.settings_setReq (x : RequestUnit) : (s.setReq x).settings = s.settings := rfl
@[simp] theorem State.line_setReq (x : RequestUnit) : (s.setReq x).line = s.line := rfl
@[simp] theorem State.bus_setReq (x : RequestUnit) : (s.setReq x).bus = s.bus := rfl
@[simp] theorem State.time_setReq (x : RequestUnit) : (s.setReq x).time = s.time := rfl
@[simp] theorem State.rx_setReq (x : RequestUnit) : (s.setReq x).rx = s.rx := rfl
@[simp] theorem State.pub_setReq (x : RequestUnit) : (s.setReq x).pub = s.pub := rfl
@[simp] theorem State.listen_setReq (x : RequestUnit) : (s.setReq x).listen = s.listen := rfl
@[simp] theorem State.mix_setReq (x : RequestUnit) : (s.setReq x).mix = s.mix := rfl
@[simp] theorem State.meas_setReq (x : RequestUnit) : (s.setReq x).meas = s.meas := rfl
@[simp] theorem State.drive_setReq (x : RequestUnit) : (s.setReq x).drive = s.drive := rfl
@[simp] theorem State.fault_setReq (x : RequestUnit) : (s.setReq x).fault = s.fault := rfl
@[simp] theorem State.req_setReq (x : RequestUnit) : (s.setReq x).req = x := rfl
@[simp] theorem State.test_setReq (x : RequestUnit) : (s.setReq x).test = s.test := rfl
@[simp] theorem State.loader_setReq (x : RequestUnit) : (s.setReq x).loader = s.loader := rfl
@[simp] theorem State.pending_setReq (x : RequestUnit) : (s.setReq x).pending = s.pending := rfl

/-! ### setTest -/

@[simp] theorem State.resetLow_setTest (x : TestUnit) : (s.setTest x).resetLow = s.resetLow := rfl
@[simp] theorem State.settings_setTest (x : TestUnit) : (s.setTest x).settings = s.settings := rfl
@[simp] theorem State.line_setTest (x : TestUnit) : (s.setTest x).line = s.line := rfl
@[simp] theorem State.bus_setTest (x : TestUnit) : (s.setTest x).bus = s.bus := rfl
@[simp] theorem State.time_setTest (x : TestUnit) : (s.setTest x).time = s.time := rfl
@[simp] theorem State.rx_setTest (x : TestUnit) : (s.setTest x).rx = s.rx := rfl
@[simp] theorem State.pub_setTest (x : TestUnit) : (s.setTest x).pub = s.pub := rfl
@[simp] theorem State.listen_setTest (x : TestUnit) : (s.setTest x).listen = s.listen := rfl
@[simp] theorem State.mix_setTest (x : TestUnit) : (s.setTest x).mix = s.mix := rfl
@[simp] theorem State.meas_setTest (x : TestUnit) : (s.setTest x).meas = s.meas := rfl
@[simp] theorem State.drive_setTest (x : TestUnit) : (s.setTest x).drive = s.drive := rfl
@[simp] theorem State.fault_setTest (x : TestUnit) : (s.setTest x).fault = s.fault := rfl
@[simp] theorem State.req_setTest (x : TestUnit) : (s.setTest x).req = s.req := rfl
@[simp] theorem State.test_setTest (x : TestUnit) : (s.setTest x).test = x := rfl
@[simp] theorem State.loader_setTest (x : TestUnit) : (s.setTest x).loader = s.loader := rfl
@[simp] theorem State.pending_setTest (x : TestUnit) : (s.setTest x).pending = s.pending := rfl

/-! ### setLoader -/

@[simp] theorem State.resetLow_setLoader (x : Loader) : (s.setLoader x).resetLow = s.resetLow := rfl
@[simp] theorem State.settings_setLoader (x : Loader) : (s.setLoader x).settings = s.settings := rfl
@[simp] theorem State.line_setLoader (x : Loader) : (s.setLoader x).line = s.line := rfl
@[simp] theorem State.bus_setLoader (x : Loader) : (s.setLoader x).bus = s.bus := rfl
@[simp] theorem State.time_setLoader (x : Loader) : (s.setLoader x).time = s.time := rfl
@[simp] theorem State.rx_setLoader (x : Loader) : (s.setLoader x).rx = s.rx := rfl
@[simp] theorem State.pub_setLoader (x : Loader) : (s.setLoader x).pub = s.pub := rfl
@[simp] theorem State.listen_setLoader (x : Loader) : (s.setLoader x).listen = s.listen := rfl
@[simp] theorem State.mix_setLoader (x : Loader) : (s.setLoader x).mix = s.mix := rfl
@[simp] theorem State.meas_setLoader (x : Loader) : (s.setLoader x).meas = s.meas := rfl
@[simp] theorem State.drive_setLoader (x : Loader) : (s.setLoader x).drive = s.drive := rfl
@[simp] theorem State.fault_setLoader (x : Loader) : (s.setLoader x).fault = s.fault := rfl
@[simp] theorem State.req_setLoader (x : Loader) : (s.setLoader x).req = s.req := rfl
@[simp] theorem State.test_setLoader (x : Loader) : (s.setLoader x).test = s.test := rfl
@[simp] theorem State.loader_setLoader (x : Loader) : (s.setLoader x).loader = x := rfl
@[simp] theorem State.pending_setLoader (x : Loader) : (s.setLoader x).pending = s.pending := rfl

/-! ### setPending -/

@[simp] theorem State.resetLow_setPending (x : List Instr) : (s.setPending x).resetLow = s.resetLow := rfl
@[simp] theorem State.settings_setPending (x : List Instr) : (s.setPending x).settings = s.settings := rfl
@[simp] theorem State.line_setPending (x : List Instr) : (s.setPending x).line = s.line := rfl
@[simp] theorem State.bus_setPending (x : List Instr) : (s.setPending x).bus = s.bus := rfl
@[simp] theorem State.time_setPending (x : List Instr) : (s.setPending x).time = s.time := rfl
@[simp] theorem State.rx_setPending (x : List Instr) : (s.setPending x).rx = s.rx := rfl
@[simp] theorem State.pub_setPending (x : List Instr) : (s.setPending x).pub = s.pub := rfl
@[simp] theorem State.listen_setPending (x : List Instr) : (s.setPending x).listen = s.listen := rfl
@[simp] theorem State.mix_setPending (x : List Instr) : (s.setPending x).mix = s.mix := rfl
@[simp] theorem State.meas_setPending (x : List Instr) : (s.setPending x).meas = s.meas := rfl
@[simp] theorem State.drive_setPending (x : List Instr) : (s.setPending x).drive = s.drive := rfl
@[simp] theorem State.fault_setPending (x : List Instr) : (s.setPending x).fault = s.fault := rfl
@[simp] theorem State.req_setPending (x : List Instr) : (s.setPending x).req = s.req := rfl
@[simp] theorem State.test_setPending (x : List Instr) : (s.setPending x).test = s.test := rfl
@[simp] theorem State.loader_setPending (x : List Instr) : (s.setPending x).loader = s.loader := rfl
@[simp] theorem State.pending_setPending (x : List Instr) : (s.setPending x).pending = x := rfl

/-- The STOP routes in force are read from the settings. -/
theorem stopRoutes_congr {s t : State} (h : t.settings = s.settings) : t.stopRoutes = s.stopRoutes := by
  unfold State.stopRoutes; rw [h]

/-- The NOTE routes in force are read from the settings. -/
theorem noteRoutes_congr {s t : State} (h : t.settings = s.settings) : t.noteRoutes = s.noteRoutes := by
  unfold State.noteRoutes; rw [h]

/-- The current span time is read from the time unit. -/
theorem now_congr {s t : State} (h : t.time = s.time) : t.now = s.now := by
  unfold State.now; rw [h]

/-! ### The readings of a state through a writer that does not reach them -/

@[simp] theorem State.stopRoutes_setResetLow (x : Bool) : (s.setResetLow x).stopRoutes = s.stopRoutes := rfl
@[simp] theorem State.noteRoutes_setResetLow (x : Bool) : (s.setResetLow x).noteRoutes = s.noteRoutes := rfl
@[simp] theorem State.now_setResetLow (x : Bool) : (s.setResetLow x).now = s.now := rfl
@[simp] theorem State.now_setSettings (x : Option Settings) : (s.setSettings x).now = s.now := rfl
@[simp] theorem State.stopRoutes_setLine (x : Line) : (s.setLine x).stopRoutes = s.stopRoutes := rfl
@[simp] theorem State.noteRoutes_setLine (x : Line) : (s.setLine x).noteRoutes = s.noteRoutes := rfl
@[simp] theorem State.now_setLine (x : Line) : (s.setLine x).now = s.now := rfl
@[simp] theorem State.stopRoutes_setBus (x : BusController) : (s.setBus x).stopRoutes = s.stopRoutes := rfl
@[simp] theorem State.noteRoutes_setBus (x : BusController) : (s.setBus x).noteRoutes = s.noteRoutes := rfl
@[simp] theorem State.now_setBus (x : BusController) : (s.setBus x).now = s.now := rfl
@[simp] theorem State.stopRoutes_setTime (x : TimeUnit) : (s.setTime x).stopRoutes = s.stopRoutes := rfl
@[simp] theorem State.noteRoutes_setTime (x : TimeUnit) : (s.setTime x).noteRoutes = s.noteRoutes := rfl
@[simp] theorem State.stopRoutes_setRx (x : Reception) : (s.setRx x).stopRoutes = s.stopRoutes := rfl
@[simp] theorem State.noteRoutes_setRx (x : Reception) : (s.setRx x).noteRoutes = s.noteRoutes := rfl
@[simp] theorem State.now_setRx (x : Reception) : (s.setRx x).now = s.now := rfl
@[simp] theorem State.stopRoutes_setPub (x : Publisher) : (s.setPub x).stopRoutes = s.stopRoutes := rfl
@[simp] theorem State.noteRoutes_setPub (x : Publisher) : (s.setPub x).noteRoutes = s.noteRoutes := rfl
@[simp] theorem State.now_setPub (x : Publisher) : (s.setPub x).now = s.now := rfl
@[simp] theorem State.stopRoutes_setListen (x : Vector Slot 12) : (s.setListen x).stopRoutes = s.stopRoutes := rfl
@[simp] theorem State.noteRoutes_setListen (x : Vector Slot 12) : (s.setListen x).noteRoutes = s.noteRoutes := rfl
@[simp] theorem State.now_setListen (x : Vector Slot 12) : (s.setListen x).now = s.now := rfl
@[simp] theorem State.stopRoutes_setMix (x : MixUnit) : (s.setMix x).stopRoutes = s.stopRoutes := rfl
@[simp] theorem State.noteRoutes_setMix (x : MixUnit) : (s.setMix x).noteRoutes = s.noteRoutes := rfl
@[simp] theorem State.now_setMix (x : MixUnit) : (s.setMix x).now = s.now := rfl
@[simp] theorem State.stopRoutes_setMeas (x : Measurement) : (s.setMeas x).stopRoutes = s.stopRoutes := rfl
@[simp] theorem State.noteRoutes_setMeas (x : Measurement) : (s.setMeas x).noteRoutes = s.noteRoutes := rfl
@[simp] theorem State.now_setMeas (x : Measurement) : (s.setMeas x).now = s.now := rfl
@[simp] theorem State.stopRoutes_setDrive (x : DriveUnit) : (s.setDrive x).stopRoutes = s.stopRoutes := rfl
@[simp] theorem State.noteRoutes_setDrive (x : DriveUnit) : (s.setDrive x).noteRoutes = s.noteRoutes := rfl
@[simp] theorem State.now_setDrive (x : DriveUnit) : (s.setDrive x).now = s.now := rfl
@[simp] theorem State.stopRoutes_setFault (x : FaultUnit) : (s.setFault x).stopRoutes = s.stopRoutes := rfl
@[simp] theorem State.noteRoutes_setFault (x : FaultUnit) : (s.setFault x).noteRoutes = s.noteRoutes := rfl
@[simp] theorem State.now_setFault (x : FaultUnit) : (s.setFault x).now = s.now := rfl
@[simp] theorem State.stopRoutes_setReq (x : RequestUnit) : (s.setReq x).stopRoutes = s.stopRoutes := rfl
@[simp] theorem State.noteRoutes_setReq (x : RequestUnit) : (s.setReq x).noteRoutes = s.noteRoutes := rfl
@[simp] theorem State.now_setReq (x : RequestUnit) : (s.setReq x).now = s.now := rfl
@[simp] theorem State.stopRoutes_setTest (x : TestUnit) : (s.setTest x).stopRoutes = s.stopRoutes := rfl
@[simp] theorem State.noteRoutes_setTest (x : TestUnit) : (s.setTest x).noteRoutes = s.noteRoutes := rfl
@[simp] theorem State.now_setTest (x : TestUnit) : (s.setTest x).now = s.now := rfl
@[simp] theorem State.stopRoutes_setLoader (x : Loader) : (s.setLoader x).stopRoutes = s.stopRoutes := rfl
@[simp] theorem State.noteRoutes_setLoader (x : Loader) : (s.setLoader x).noteRoutes = s.noteRoutes := rfl
@[simp] theorem State.now_setLoader (x : Loader) : (s.setLoader x).now = s.now := rfl
@[simp] theorem State.stopRoutes_setPending (x : List Instr) : (s.setPending x).stopRoutes = s.stopRoutes := rfl
@[simp] theorem State.noteRoutes_setPending (x : List Instr) : (s.setPending x).noteRoutes = s.noteRoutes := rfl
@[simp] theorem State.now_setPending (x : List Instr) : (s.setPending x).now = s.now := rfl

/-- Two states whose blocks agree are equal. -/
theorem State.ext_blocks {s t : State}
    (h : s.resetLow = t.resetLow ∧ s.settings = t.settings ∧ s.line = t.line ∧ s.bus = t.bus ∧ s.time = t.time ∧
      s.rx = t.rx ∧ s.pub = t.pub ∧ s.listen = t.listen ∧ s.mix = t.mix ∧ s.meas = t.meas ∧ s.drive = t.drive ∧
      s.fault = t.fault ∧ s.req = t.req ∧ s.test = t.test ∧ s.loader = t.loader ∧ s.pending = t.pending) : s = t := by
  cases s; cases t; simp_all

end Sys2Proof.Machine
end

