-- ==== Sys2Proof/Laws/Frames.lean ====
section
/-! SUPPORT. What each shared operation leaves as it stands, said once per operation: the blocks that it cannot
reach. A proof cites these lemmas (they are simp rules) in place of the operation's text. -/

namespace Sys2Proof.Machine

/-- What every step of a fold leaves, the fold leaves. -/
theorem foldl_keeps {α β γ : Type} (g : α → γ) (f : α → β → α) (h : ∀ a b, g (f a b) = g a) (l : List β) (a : α) :
    g (l.foldl f a) = g a := by
  induction l generalizing a with
  | nil => rfl
  | cons b l ih => rw [List.foldl_cons, ih, h]

/-- A raise reaches the fault unit alone. -/
@[simp] theorem raise_frame (f : Flag) (s : State) :
    (raise f s).resetLow = s.resetLow ∧ (raise f s).settings = s.settings ∧ (raise f s).line = s.line ∧
    (raise f s).bus = s.bus ∧ (raise f s).time = s.time ∧ (raise f s).rx = s.rx ∧ (raise f s).pub = s.pub ∧
    (raise f s).listen = s.listen ∧ (raise f s).mix = s.mix ∧ (raise f s).meas = s.meas ∧
    (raise f s).drive = s.drive ∧ (raise f s).req = s.req ∧ (raise f s).test = s.test ∧
    (raise f s).loader = s.loader ∧ (raise f s).pending = s.pending := by
  refine ⟨?_, ?_, ?_, ?_, ?_, ?_, ?_, ?_, ?_, ?_, ?_, ?_, ?_, ?_, ?_⟩ <;> simp [raise]

/-- A raise under a condition reaches the fault unit alone. -/
@[simp] theorem raiseIf_frame (b : Bool) (f : Flag) (s : State) :
    (raiseIf b f s).resetLow = s.resetLow ∧ (raiseIf b f s).settings = s.settings ∧
    (raiseIf b f s).line = s.line ∧ (raiseIf b f s).bus = s.bus ∧ (raiseIf b f s).time = s.time ∧
    (raiseIf b f s).rx = s.rx ∧ (raiseIf b f s).pub = s.pub ∧ (raiseIf b f s).listen = s.listen ∧
    (raiseIf b f s).mix = s.mix ∧ (raiseIf b f s).meas = s.meas ∧ (raiseIf b f s).drive = s.drive ∧
    (raiseIf b f s).req = s.req ∧ (raiseIf b f s).test = s.test ∧ (raiseIf b f s).loader = s.loader ∧
    (raiseIf b f s).pending = s.pending := by
  refine ⟨?_, ?_, ?_, ?_, ?_, ?_, ?_, ?_, ?_, ?_, ?_, ?_, ?_, ?_, ?_⟩ <;> (unfold raiseIf; (repeat' split) <;> simp)

/-- The routes act in the fault unit alone. -/
@[simp] theorem applyRoutes_frame (s : State) :
    (applyRoutes s).resetLow = s.resetLow ∧ (applyRoutes s).settings = s.settings ∧
    (applyRoutes s).line = s.line ∧ (applyRoutes s).bus = s.bus ∧ (applyRoutes s).time = s.time ∧
    (applyRoutes s).rx = s.rx ∧ (applyRoutes s).pub = s.pub ∧ (applyRoutes s).listen = s.listen ∧
    (applyRoutes s).mix = s.mix ∧ (applyRoutes s).meas = s.meas ∧ (applyRoutes s).drive = s.drive ∧
    (applyRoutes s).req = s.req ∧ (applyRoutes s).test = s.test ∧ (applyRoutes s).loader = s.loader ∧
    (applyRoutes s).pending = s.pending := by
  refine ⟨?_, ?_, ?_, ?_, ?_, ?_, ?_, ?_, ?_, ?_, ?_, ?_, ?_, ?_, ?_⟩ <;> simp [applyRoutes]

/-- The fault unit's part of CLEAR. -/
@[simp] theorem clearFlags_frame (s : State) :
    (clearFlags s).resetLow = s.resetLow ∧ (clearFlags s).settings = s.settings ∧ (clearFlags s).line = s.line ∧
    (clearFlags s).bus = s.bus ∧ (clearFlags s).time = s.time ∧ (clearFlags s).rx = s.rx ∧
    (clearFlags s).pub = s.pub ∧ (clearFlags s).listen = s.listen ∧ (clearFlags s).mix = s.mix ∧
    (clearFlags s).meas = s.meas ∧ (clearFlags s).drive = s.drive ∧ (clearFlags s).req = s.req ∧
    (clearFlags s).test = s.test ∧ (clearFlags s).loader = s.loader ∧ (clearFlags s).pending = s.pending := by
  refine ⟨?_, ?_, ?_, ?_, ?_, ?_, ?_, ?_, ?_, ?_, ?_, ?_, ?_, ?_, ?_⟩ <;> simp [clearFlags]

/-- Time passing reaches the clock, the listen quiet timer and the PWM timer alone. -/
@[simp] theorem advance_frame (s : State) (us : Nat) :
    (s.advance us).resetLow = s.resetLow ∧ (s.advance us).settings = s.settings ∧ (s.advance us).line = s.line ∧
    (s.advance us).bus = s.bus ∧ (s.advance us).rx = s.rx ∧ (s.advance us).pub = s.pub ∧
    (s.advance us).listen = s.listen ∧ (s.advance us).mix = s.mix ∧ (s.advance us).meas = s.meas ∧
    (s.advance us).fault = s.fault ∧ (s.advance us).req = s.req ∧ (s.advance us).test = s.test ∧
    (s.advance us).pending = s.pending := by
  refine ⟨?_, ?_, ?_, ?_, ?_, ?_, ?_, ?_, ?_, ?_, ?_, ?_, ?_⟩ <;> simp [State.advance]

/-- Entry to DISARMED reaches the drive unit and the integral alone. -/
@[simp] theorem enterDisarmed_frame (s : State) :
    (enterDisarmed s).resetLow = s.resetLow ∧ (enterDisarmed s).settings = s.settings ∧
    (enterDisarmed s).line = s.line ∧ (enterDisarmed s).bus = s.bus ∧ (enterDisarmed s).time = s.time ∧
    (enterDisarmed s).rx = s.rx ∧ (enterDisarmed s).pub = s.pub ∧ (enterDisarmed s).listen = s.listen ∧
    (enterDisarmed s).meas = s.meas ∧ (enterDisarmed s).fault = s.fault ∧ (enterDisarmed s).req = s.req ∧
    (enterDisarmed s).test = s.test ∧ (enterDisarmed s).loader = s.loader ∧ (enterDisarmed s).pending = s.pending := by
  refine ⟨?_, ?_, ?_, ?_, ?_, ?_, ?_, ?_, ?_, ?_, ?_, ?_, ?_, ?_⟩ <;> simp [enterDisarmed]

/-- Entry to COAST reaches the drive unit alone. -/
@[simp] theorem enterCoast_frame (s : State) :
    (enterCoast s).resetLow = s.resetLow ∧ (enterCoast s).settings = s.settings ∧ (enterCoast s).line = s.line ∧
    (enterCoast s).bus = s.bus ∧ (enterCoast s).time = s.time ∧ (enterCoast s).rx = s.rx ∧
    (enterCoast s).pub = s.pub ∧ (enterCoast s).listen = s.listen ∧ (enterCoast s).mix = s.mix ∧
    (enterCoast s).meas = s.meas ∧ (enterCoast s).fault = s.fault ∧ (enterCoast s).req = s.req ∧
    (enterCoast s).test = s.test ∧ (enterCoast s).loader = s.loader ∧ (enterCoast s).pending = s.pending := by
  refine ⟨?_, ?_, ?_, ?_, ?_, ?_, ?_, ?_, ?_, ?_, ?_, ?_, ?_, ?_, ?_⟩ <;> simp [enterCoast]

/-- Entry to ACTIVE reaches the drive unit alone. -/
@[simp] theorem enterActive_frame (s : State) :
    (enterActive s).resetLow = s.resetLow ∧ (enterActive s).settings = s.settings ∧
    (enterActive s).line = s.line ∧ (enterActive s).bus = s.bus ∧ (enterActive s).time = s.time ∧
    (enterActive s).rx = s.rx ∧ (enterActive s).pub = s.pub ∧ (enterActive s).listen = s.listen ∧
    (enterActive s).mix = s.mix ∧ (enterActive s).meas = s.meas ∧ (enterActive s).fault = s.fault ∧
    (enterActive s).req = s.req ∧ (enterActive s).test = s.test ∧ (enterActive s).loader = s.loader ∧
    (enterActive s).pending = s.pending := by
  refine ⟨?_, ?_, ?_, ?_, ?_, ?_, ?_, ?_, ?_, ?_, ?_, ?_, ?_, ?_, ?_⟩ <;> simp [enterActive]

/-- A refusal reaches the request unit alone. -/
@[simp] theorem refuse_frame (k : Refusable) (s : State) :
    (refuse k s).resetLow = s.resetLow ∧ (refuse k s).settings = s.settings ∧ (refuse k s).line = s.line ∧
    (refuse k s).bus = s.bus ∧ (refuse k s).time = s.time ∧ (refuse k s).rx = s.rx ∧ (refuse k s).pub = s.pub ∧
    (refuse k s).listen = s.listen ∧ (refuse k s).mix = s.mix ∧ (refuse k s).meas = s.meas ∧
    (refuse k s).drive = s.drive ∧ (refuse k s).fault = s.fault ∧ (refuse k s).test = s.test ∧
    (refuse k s).loader = s.loader ∧ (refuse k s).pending = s.pending := by
  refine ⟨?_, ?_, ?_, ?_, ?_, ?_, ?_, ?_, ?_, ?_, ?_, ?_, ?_, ?_, ?_⟩ <;> simp [refuse]

/-- ARM reaches the drive unit and the refused count alone. -/
@[simp] theorem armTaken_frame (s : State) :
    (armTaken s).resetLow = s.resetLow ∧ (armTaken s).settings = s.settings ∧ (armTaken s).line = s.line ∧
    (armTaken s).bus = s.bus ∧ (armTaken s).time = s.time ∧ (armTaken s).rx = s.rx ∧ (armTaken s).pub = s.pub ∧
    (armTaken s).listen = s.listen ∧ (armTaken s).mix = s.mix ∧ (armTaken s).meas = s.meas ∧
    (armTaken s).fault = s.fault ∧ (armTaken s).test = s.test ∧ (armTaken s).loader = s.loader ∧
    (armTaken s).pending = s.pending := by
  refine ⟨?_, ?_, ?_, ?_, ?_, ?_, ?_, ?_, ?_, ?_, ?_, ?_, ?_, ?_⟩ <;> (unfold armTaken; (repeat' split) <;> simp)

/-- DISARM reaches the drive unit and the integral alone. -/
@[simp] theorem disarmTaken_frame (s : State) :
    (disarmTaken s).resetLow = s.resetLow ∧ (disarmTaken s).settings = s.settings ∧
    (disarmTaken s).line = s.line ∧ (disarmTaken s).bus = s.bus ∧ (disarmTaken s).time = s.time ∧
    (disarmTaken s).rx = s.rx ∧ (disarmTaken s).pub = s.pub ∧ (disarmTaken s).listen = s.listen ∧
    (disarmTaken s).meas = s.meas ∧ (disarmTaken s).fault = s.fault ∧ (disarmTaken s).req = s.req ∧
    (disarmTaken s).test = s.test ∧ (disarmTaken s).loader = s.loader ∧ (disarmTaken s).pending = s.pending := by
  refine ⟨?_, ?_, ?_, ?_, ?_, ?_, ?_, ?_, ?_, ?_, ?_, ?_, ?_, ?_⟩ <;> (unfold disarmTaken; (repeat' split) <;> simp)

/-- A stop line assertion reaches the drive unit alone. -/
@[simp] theorem stopAsserted_frame (s : State) :
    (stopAsserted s).resetLow = s.resetLow ∧ (stopAsserted s).settings = s.settings ∧
    (stopAsserted s).line = s.line ∧ (stopAsserted s).bus = s.bus ∧ (stopAsserted s).time = s.time ∧
    (stopAsserted s).rx = s.rx ∧ (stopAsserted s).pub = s.pub ∧ (stopAsserted s).listen = s.listen ∧
    (stopAsserted s).mix = s.mix ∧ (stopAsserted s).meas = s.meas ∧ (stopAsserted s).fault = s.fault ∧
    (stopAsserted s).req = s.req ∧ (stopAsserted s).test = s.test ∧ (stopAsserted s).loader = s.loader ∧
    (stopAsserted s).pending = s.pending := by
  refine ⟨?_, ?_, ?_, ?_, ?_, ?_, ?_, ?_, ?_, ?_, ?_, ?_, ?_, ?_, ?_⟩ <;> (unfold stopAsserted; (repeat' split) <;> simp)

/-- A stop line release reaches the drive unit and the integral alone. -/
@[simp] theorem stopReleased_frame (s : State) :
    (stopReleased s).resetLow = s.resetLow ∧ (stopReleased s).settings = s.settings ∧
    (stopReleased s).line = s.line ∧ (stopReleased s).bus = s.bus ∧ (stopReleased s).time = s.time ∧
    (stopReleased s).rx = s.rx ∧ (stopReleased s).pub = s.pub ∧ (stopReleased s).listen = s.listen ∧
    (stopReleased s).meas = s.meas ∧ (stopReleased s).fault = s.fault ∧ (stopReleased s).req = s.req ∧
    (stopReleased s).test = s.test ∧ (stopReleased s).loader = s.loader ∧ (stopReleased s).pending = s.pending := by
  refine ⟨?_, ?_, ?_, ?_, ?_, ?_, ?_, ?_, ?_, ?_, ?_, ?_, ?_, ?_⟩ <;> (unfold stopReleased; (repeat' split) <;> simp)

/-- A DRV_ATTN assertion reaches the drive unit and the fault unit alone. -/
@[simp] theorem attnAsserted_frame (s : State) :
    (attnAsserted s).resetLow = s.resetLow ∧ (attnAsserted s).settings = s.settings ∧
    (attnAsserted s).line = s.line ∧ (attnAsserted s).bus = s.bus ∧ (attnAsserted s).time = s.time ∧
    (attnAsserted s).rx = s.rx ∧ (attnAsserted s).pub = s.pub ∧ (attnAsserted s).listen = s.listen ∧
    (attnAsserted s).mix = s.mix ∧ (attnAsserted s).meas = s.meas ∧ (attnAsserted s).req = s.req ∧
    (attnAsserted s).test = s.test ∧ (attnAsserted s).loader = s.loader ∧ (attnAsserted s).pending = s.pending := by
  refine ⟨?_, ?_, ?_, ?_, ?_, ?_, ?_, ?_, ?_, ?_, ?_, ?_, ?_, ?_⟩ <;> (unfold attnAsserted; (repeat' split) <;> simp)

/-- Sensing STOP reaches the drive unit and the integral alone. -/
@[simp] theorem senseStop_frame (level : Bool) (s : State) :
    (senseStop level s).resetLow = s.resetLow ∧ (senseStop level s).settings = s.settings ∧
    (senseStop level s).line = s.line ∧ (senseStop level s).bus = s.bus ∧ (senseStop level s).time = s.time ∧
    (senseStop level s).rx = s.rx ∧ (senseStop level s).pub = s.pub ∧ (senseStop level s).listen = s.listen ∧
    (senseStop level s).meas = s.meas ∧ (senseStop level s).fault = s.fault ∧ (senseStop level s).req = s.req ∧
    (senseStop level s).test = s.test ∧ (senseStop level s).loader = s.loader ∧
    (senseStop level s).pending = s.pending := by
  refine ⟨?_, ?_, ?_, ?_, ?_, ?_, ?_, ?_, ?_, ?_, ?_, ?_, ?_, ?_⟩ <;> (unfold senseStop; (repeat' split) <;> simp)

/-- Sensing DRV_ATTN reaches the drive unit and the fault unit alone. -/
@[simp] theorem senseAttn_frame (level : Bool) (s : State) :
    (senseAttn level s).resetLow = s.resetLow ∧ (senseAttn level s).settings = s.settings ∧
    (senseAttn level s).line = s.line ∧ (senseAttn level s).bus = s.bus ∧ (senseAttn level s).time = s.time ∧
    (senseAttn level s).rx = s.rx ∧ (senseAttn level s).pub = s.pub ∧ (senseAttn level s).listen = s.listen ∧
    (senseAttn level s).mix = s.mix ∧ (senseAttn level s).meas = s.meas ∧ (senseAttn level s).req = s.req ∧
    (senseAttn level s).test = s.test ∧ (senseAttn level s).loader = s.loader ∧
    (senseAttn level s).pending = s.pending := by
  refine ⟨?_, ?_, ?_, ?_, ?_, ?_, ?_, ?_, ?_, ?_, ?_, ?_, ?_, ?_⟩ <;> (unfold senseAttn; (repeat' split) <;> simp)

/-- A sample that accepts nothing reaches the measurement unit alone. -/
@[simp] theorem observeEncoder_frame (x : EncSample) (s : State) :
    (observeEncoder x s).resetLow = s.resetLow ∧ (observeEncoder x s).settings = s.settings ∧
    (observeEncoder x s).line = s.line ∧ (observeEncoder x s).bus = s.bus ∧ (observeEncoder x s).time = s.time ∧
    (observeEncoder x s).rx = s.rx ∧ (observeEncoder x s).pub = s.pub ∧ (observeEncoder x s).listen = s.listen ∧
    (observeEncoder x s).mix = s.mix ∧ (observeEncoder x s).drive = s.drive ∧
    (observeEncoder x s).fault = s.fault ∧ (observeEncoder x s).req = s.req ∧ (observeEncoder x s).test = s.test ∧
    (observeEncoder x s).loader = s.loader ∧ (observeEncoder x s).pending = s.pending := by
  refine ⟨?_, ?_, ?_, ?_, ?_, ?_, ?_, ?_, ?_, ?_, ?_, ?_, ?_, ?_, ?_⟩ <;> simp [observeEncoder]

/-- An encoder sample reaches the measurement unit and the fault unit alone. -/
@[simp] theorem sampleEncoder_frame (x : EncSample) (s : State) :
    (sampleEncoder x s).resetLow = s.resetLow ∧ (sampleEncoder x s).settings = s.settings ∧
    (sampleEncoder x s).line = s.line ∧ (sampleEncoder x s).bus = s.bus ∧ (sampleEncoder x s).time = s.time ∧
    (sampleEncoder x s).rx = s.rx ∧ (sampleEncoder x s).pub = s.pub ∧ (sampleEncoder x s).listen = s.listen ∧
    (sampleEncoder x s).mix = s.mix ∧ (sampleEncoder x s).drive = s.drive ∧ (sampleEncoder x s).req = s.req ∧
    (sampleEncoder x s).test = s.test ∧ (sampleEncoder x s).loader = s.loader ∧
    (sampleEncoder x s).pending = s.pending := by
  refine ⟨?_, ?_, ?_, ?_, ?_, ?_, ?_, ?_, ?_, ?_, ?_, ?_, ?_, ?_⟩ <;> simp [sampleEncoder]

/-- Judging the failure run reaches the fault unit alone. -/
@[simp] theorem judgeFailureRun_frame (s : State) :
    (judgeFailureRun s).resetLow = s.resetLow ∧ (judgeFailureRun s).settings = s.settings ∧
    (judgeFailureRun s).line = s.line ∧ (judgeFailureRun s).bus = s.bus ∧ (judgeFailureRun s).time = s.time ∧
    (judgeFailureRun s).rx = s.rx ∧ (judgeFailureRun s).pub = s.pub ∧ (judgeFailureRun s).listen = s.listen ∧
    (judgeFailureRun s).mix = s.mix ∧ (judgeFailureRun s).meas = s.meas ∧ (judgeFailureRun s).drive = s.drive ∧
    (judgeFailureRun s).req = s.req ∧ (judgeFailureRun s).test = s.test ∧ (judgeFailureRun s).loader = s.loader ∧
    (judgeFailureRun s).pending = s.pending := by
  refine ⟨?_, ?_, ?_, ?_, ?_, ?_, ?_, ?_, ?_, ?_, ?_, ?_, ?_, ?_, ?_⟩ <;> simp [judgeFailureRun]

/-- A failed exchange reaches the measurement unit and the fault unit alone. -/
@[simp] theorem exchangeFailed_frame (s : State) :
    (exchangeFailed s).resetLow = s.resetLow ∧ (exchangeFailed s).settings = s.settings ∧
    (exchangeFailed s).line = s.line ∧ (exchangeFailed s).bus = s.bus ∧ (exchangeFailed s).time = s.time ∧
    (exchangeFailed s).rx = s.rx ∧ (exchangeFailed s).pub = s.pub ∧ (exchangeFailed s).listen = s.listen ∧
    (exchangeFailed s).mix = s.mix ∧ (exchangeFailed s).drive = s.drive ∧ (exchangeFailed s).req = s.req ∧
    (exchangeFailed s).test = s.test ∧ (exchangeFailed s).loader = s.loader ∧
    (exchangeFailed s).pending = s.pending := by
  refine ⟨?_, ?_, ?_, ?_, ?_, ?_, ?_, ?_, ?_, ?_, ?_, ?_, ?_, ?_⟩ <;> simp [exchangeFailed]

/-- A completion reaches the measurement unit and the fault unit alone. -/
@[simp] theorem exchangeCompleted_frame (w : BitVec 32) (s : State) :
    (exchangeCompleted w s).resetLow = s.resetLow ∧ (exchangeCompleted w s).settings = s.settings ∧
    (exchangeCompleted w s).line = s.line ∧ (exchangeCompleted w s).bus = s.bus ∧
    (exchangeCompleted w s).time = s.time ∧ (exchangeCompleted w s).rx = s.rx ∧
    (exchangeCompleted w s).pub = s.pub ∧ (exchangeCompleted w s).listen = s.listen ∧
    (exchangeCompleted w s).mix = s.mix ∧ (exchangeCompleted w s).drive = s.drive ∧
    (exchangeCompleted w s).req = s.req ∧ (exchangeCompleted w s).test = s.test ∧
    (exchangeCompleted w s).loader = s.loader ∧ (exchangeCompleted w s).pending = s.pending := by
  refine ⟨?_, ?_, ?_, ?_, ?_, ?_, ?_, ?_, ?_, ?_, ?_, ?_, ?_, ?_⟩ <;> (unfold exchangeCompleted; (repeat' split) <;> simp)

/-- The measurement unit's tick. -/
@[simp] theorem measureTick_frame (s : State) :
    (measureTick s).resetLow = s.resetLow ∧ (measureTick s).settings = s.settings ∧
    (measureTick s).line = s.line ∧ (measureTick s).bus = s.bus ∧ (measureTick s).time = s.time ∧
    (measureTick s).rx = s.rx ∧ (measureTick s).pub = s.pub ∧ (measureTick s).listen = s.listen ∧
    (measureTick s).mix = s.mix ∧ (measureTick s).drive = s.drive ∧ (measureTick s).req = s.req ∧
    (measureTick s).test = s.test ∧ (measureTick s).loader = s.loader ∧ (measureTick s).pending = s.pending := by
  refine ⟨?_, ?_, ?_, ?_, ?_, ?_, ?_, ?_, ?_, ?_, ?_, ?_, ?_, ?_⟩ <;> (unfold measureTick; (repeat' split) <;> simp)

/-- A TAG record reaches the listen table and the fault unit alone. -/
@[simp] theorem tagTaken_frame (c : Settings) (sender : Station) (r : TagRecord) (s : State) :
    (tagTaken c sender r s).resetLow = s.resetLow ∧ (tagTaken c sender r s).settings = s.settings ∧
    (tagTaken c sender r s).line = s.line ∧ (tagTaken c sender r s).bus = s.bus ∧
    (tagTaken c sender r s).time = s.time ∧ (tagTaken c sender r s).rx = s.rx ∧
    (tagTaken c sender r s).pub = s.pub ∧ (tagTaken c sender r s).mix = s.mix ∧
    (tagTaken c sender r s).meas = s.meas ∧ (tagTaken c sender r s).drive = s.drive ∧
    (tagTaken c sender r s).req = s.req ∧ (tagTaken c sender r s).test = s.test ∧
    (tagTaken c sender r s).loader = s.loader ∧ (tagTaken c sender r s).pending = s.pending := by
  refine ⟨?_, ?_, ?_, ?_, ?_, ?_, ?_, ?_, ?_, ?_, ?_, ?_, ?_, ?_⟩ <;> (unfold tagTaken; (repeat' split) <;> simp)

/-- Purge and ageing reach the listen table alone. -/
@[simp] theorem listenTick_frame (c : Settings) (s : State) :
    (listenTick c s).resetLow = s.resetLow ∧ (listenTick c s).settings = s.settings ∧
    (listenTick c s).line = s.line ∧ (listenTick c s).bus = s.bus ∧ (listenTick c s).time = s.time ∧
    (listenTick c s).rx = s.rx ∧ (listenTick c s).pub = s.pub ∧ (listenTick c s).mix = s.mix ∧
    (listenTick c s).meas = s.meas ∧ (listenTick c s).drive = s.drive ∧ (listenTick c s).fault = s.fault ∧
    (listenTick c s).req = s.req ∧ (listenTick c s).test = s.test ∧ (listenTick c s).loader = s.loader ∧
    (listenTick c s).pending = s.pending := by
  refine ⟨?_, ?_, ?_, ?_, ?_, ?_, ?_, ?_, ?_, ?_, ?_, ?_, ?_, ?_, ?_⟩ <;> simp [listenTick]

/-- The listen table's part of CLEAR. -/
@[simp] theorem clearClashes_frame (s : State) :
    (clearClashes s).resetLow = s.resetLow ∧ (clearClashes s).settings = s.settings ∧
    (clearClashes s).line = s.line ∧ (clearClashes s).bus = s.bus ∧ (clearClashes s).time = s.time ∧
    (clearClashes s).rx = s.rx ∧ (clearClashes s).pub = s.pub ∧ (clearClashes s).mix = s.mix ∧
    (clearClashes s).meas = s.meas ∧ (clearClashes s).drive = s.drive ∧ (clearClashes s).fault = s.fault ∧
    (clearClashes s).req = s.req ∧ (clearClashes s).test = s.test ∧ (clearClashes s).loader = s.loader ∧
    (clearClashes s).pending = s.pending := by
  refine ⟨?_, ?_, ?_, ?_, ?_, ?_, ?_, ?_, ?_, ?_, ?_, ?_, ?_, ?_, ?_⟩ <;> simp [clearClashes]

/-- Judging the saturation run reaches the fault unit alone. -/
@[simp] theorem saturationJudged_frame (c : Settings) (s : State) :
    (saturationJudged c s).resetLow = s.resetLow ∧ (saturationJudged c s).settings = s.settings ∧
    (saturationJudged c s).line = s.line ∧ (saturationJudged c s).bus = s.bus ∧
    (saturationJudged c s).time = s.time ∧ (saturationJudged c s).rx = s.rx ∧ (saturationJudged c s).pub = s.pub ∧
    (saturationJudged c s).listen = s.listen ∧ (saturationJudged c s).mix = s.mix ∧
    (saturationJudged c s).meas = s.meas ∧ (saturationJudged c s).drive = s.drive ∧
    (saturationJudged c s).req = s.req ∧ (saturationJudged c s).test = s.test ∧
    (saturationJudged c s).loader = s.loader ∧ (saturationJudged c s).pending = s.pending := by
  refine ⟨?_, ?_, ?_, ?_, ?_, ?_, ?_, ?_, ?_, ?_, ?_, ?_, ?_, ?_, ?_⟩ <;> simp [saturationJudged]

/-- The mix's tick reaches the mix unit, the pending setting and the fault unit alone. -/
@[simp] theorem mixTick_frame (c : Settings) (stamp : Stamp) (s : State) :
    (mixTick c stamp s).resetLow = s.resetLow ∧ (mixTick c stamp s).settings = s.settings ∧
    (mixTick c stamp s).line = s.line ∧ (mixTick c stamp s).bus = s.bus ∧ (mixTick c stamp s).time = s.time ∧
    (mixTick c stamp s).rx = s.rx ∧ (mixTick c stamp s).pub = s.pub ∧ (mixTick c stamp s).listen = s.listen ∧
    (mixTick c stamp s).meas = s.meas ∧ (mixTick c stamp s).req = s.req ∧ (mixTick c stamp s).test = s.test ∧
    (mixTick c stamp s).loader = s.loader ∧ (mixTick c stamp s).pending = s.pending := by
  refine ⟨?_, ?_, ?_, ?_, ?_, ?_, ?_, ?_, ?_, ?_, ?_, ?_, ?_⟩ <;> simp [mixTick]

/-- A completed burst reaches the publisher alone. -/
@[simp] theorem burstTaken_frame (c : Settings) (i : Fin 8) (s : State) :
    (burstTaken c i s).resetLow = s.resetLow ∧ (burstTaken c i s).settings = s.settings ∧
    (burstTaken c i s).line = s.line ∧ (burstTaken c i s).bus = s.bus ∧ (burstTaken c i s).time = s.time ∧
    (burstTaken c i s).rx = s.rx ∧ (burstTaken c i s).listen = s.listen ∧ (burstTaken c i s).mix = s.mix ∧
    (burstTaken c i s).meas = s.meas ∧ (burstTaken c i s).drive = s.drive ∧ (burstTaken c i s).fault = s.fault ∧
    (burstTaken c i s).req = s.req ∧ (burstTaken c i s).test = s.test ∧ (burstTaken c i s).loader = s.loader ∧
    (burstTaken c i s).pending = s.pending := by
  refine ⟨?_, ?_, ?_, ?_, ?_, ?_, ?_, ?_, ?_, ?_, ?_, ?_, ?_, ?_, ?_⟩ <;> (unfold burstTaken; dsimp only; (repeat' split) <;> simp)

/-- A due sample reaches the publisher alone. -/
@[simp] theorem sampleDue_frame (c : Settings) (i : Fin 8) (e : PublishEntry) (acc : Nat) (s : State) :
    (sampleDue c i e acc s).resetLow = s.resetLow ∧ (sampleDue c i e acc s).settings = s.settings ∧
    (sampleDue c i e acc s).line = s.line ∧ (sampleDue c i e acc s).bus = s.bus ∧
    (sampleDue c i e acc s).time = s.time ∧ (sampleDue c i e acc s).rx = s.rx ∧
    (sampleDue c i e acc s).listen = s.listen ∧ (sampleDue c i e acc s).mix = s.mix ∧
    (sampleDue c i e acc s).meas = s.meas ∧ (sampleDue c i e acc s).drive = s.drive ∧
    (sampleDue c i e acc s).fault = s.fault ∧ (sampleDue c i e acc s).req = s.req ∧
    (sampleDue c i e acc s).test = s.test ∧ (sampleDue c i e acc s).loader = s.loader ∧
    (sampleDue c i e acc s).pending = s.pending := by
  refine ⟨?_, ?_, ?_, ?_, ?_, ?_, ?_, ?_, ?_, ?_, ?_, ?_, ?_, ?_, ?_⟩ <;> (unfold sampleDue; dsimp only; (repeat' split) <;> simp)

/-- A sample taken reaches the publisher alone. -/
@[simp] theorem sampleTaken_frame (c : Settings) (i : Fin 8) (s : State) :
    (sampleTaken c i s).resetLow = s.resetLow ∧ (sampleTaken c i s).settings = s.settings ∧
    (sampleTaken c i s).line = s.line ∧ (sampleTaken c i s).bus = s.bus ∧ (sampleTaken c i s).time = s.time ∧
    (sampleTaken c i s).rx = s.rx ∧ (sampleTaken c i s).listen = s.listen ∧ (sampleTaken c i s).mix = s.mix ∧
    (sampleTaken c i s).meas = s.meas ∧ (sampleTaken c i s).drive = s.drive ∧
    (sampleTaken c i s).fault = s.fault ∧ (sampleTaken c i s).req = s.req ∧ (sampleTaken c i s).test = s.test ∧
    (sampleTaken c i s).loader = s.loader ∧ (sampleTaken c i s).pending = s.pending := by
  refine ⟨?_, ?_, ?_, ?_, ?_, ?_, ?_, ?_, ?_, ?_, ?_, ?_, ?_, ?_, ?_⟩ <;> (unfold sampleTaken; (repeat' split) <;> simp)

/-- A publish entry's tick reaches the publisher alone. -/
@[simp] theorem entryTick_frame (c : Settings) (s : State) (i : Fin 8) :
    (entryTick c s i).resetLow = s.resetLow ∧ (entryTick c s i).settings = s.settings ∧
    (entryTick c s i).line = s.line ∧ (entryTick c s i).bus = s.bus ∧ (entryTick c s i).time = s.time ∧
    (entryTick c s i).rx = s.rx ∧ (entryTick c s i).listen = s.listen ∧ (entryTick c s i).mix = s.mix ∧
    (entryTick c s i).meas = s.meas ∧ (entryTick c s i).drive = s.drive ∧ (entryTick c s i).fault = s.fault ∧
    (entryTick c s i).req = s.req ∧ (entryTick c s i).test = s.test ∧ (entryTick c s i).loader = s.loader ∧
    (entryTick c s i).pending = s.pending := by
  refine ⟨?_, ?_, ?_, ?_, ?_, ?_, ?_, ?_, ?_, ?_, ?_, ?_, ?_, ?_, ?_⟩ <;> (unfold entryTick; dsimp only; (repeat' split) <;> simp)

/-- The publish table's tick reaches the publisher alone. -/
@[simp] theorem publishTick_frame (c : Settings) (s : State) :
    (publishTick c s).resetLow = s.resetLow ∧ (publishTick c s).settings = s.settings ∧
    (publishTick c s).line = s.line ∧ (publishTick c s).bus = s.bus ∧ (publishTick c s).time = s.time ∧
    (publishTick c s).rx = s.rx ∧ (publishTick c s).listen = s.listen ∧ (publishTick c s).mix = s.mix ∧
    (publishTick c s).meas = s.meas ∧ (publishTick c s).drive = s.drive ∧ (publishTick c s).fault = s.fault ∧
    (publishTick c s).req = s.req ∧ (publishTick c s).test = s.test ∧ (publishTick c s).loader = s.loader ∧
    (publishTick c s).pending = s.pending := by
  refine ⟨?_, ?_, ?_, ?_, ?_, ?_, ?_, ?_, ?_, ?_, ?_, ?_, ?_, ?_, ?_⟩ <;> (unfold publishTick; exact foldl_keeps _ _ (fun _ _ => by simp) _ _)

/-- TEST_START reaches the test unit and the refused count alone. -/
@[simp] theorem testStartTaken_frame (c : Settings) (sender : Station) (count : Half) (s : State) :
    (testStartTaken c sender count s).resetLow = s.resetLow ∧
    (testStartTaken c sender count s).settings = s.settings ∧ (testStartTaken c sender count s).line = s.line ∧
    (testStartTaken c sender count s).bus = s.bus ∧ (testStartTaken c sender count s).time = s.time ∧
    (testStartTaken c sender count s).rx = s.rx ∧ (testStartTaken c sender count s).pub = s.pub ∧
    (testStartTaken c sender count s).listen = s.listen ∧ (testStartTaken c sender count s).mix = s.mix ∧
    (testStartTaken c sender count s).meas = s.meas ∧ (testStartTaken c sender count s).drive = s.drive ∧
    (testStartTaken c sender count s).fault = s.fault ∧ (testStartTaken c sender count s).loader = s.loader ∧
    (testStartTaken c sender count s).pending = s.pending := by
  refine ⟨?_, ?_, ?_, ?_, ?_, ?_, ?_, ?_, ?_, ?_, ?_, ?_, ?_, ?_⟩ <;> (unfold testStartTaken; (repeat' split) <;> simp)

/-- TEST_STOP reaches the test unit alone. -/
@[simp] theorem testStopTaken_frame (c : Settings) (sender : Station) (s : State) :
    (testStopTaken c sender s).resetLow = s.resetLow ∧ (testStopTaken c sender s).settings = s.settings ∧
    (testStopTaken c sender s).line = s.line ∧ (testStopTaken c sender s).bus = s.bus ∧
    (testStopTaken c sender s).time = s.time ∧ (testStopTaken c sender s).rx = s.rx ∧
    (testStopTaken c sender s).pub = s.pub ∧ (testStopTaken c sender s).listen = s.listen ∧
    (testStopTaken c sender s).mix = s.mix ∧ (testStopTaken c sender s).meas = s.meas ∧
    (testStopTaken c sender s).drive = s.drive ∧ (testStopTaken c sender s).fault = s.fault ∧
    (testStopTaken c sender s).req = s.req ∧ (testStopTaken c sender s).loader = s.loader ∧
    (testStopTaken c sender s).pending = s.pending := by
  refine ⟨?_, ?_, ?_, ?_, ?_, ?_, ?_, ?_, ?_, ?_, ?_, ?_, ?_, ?_, ?_⟩ <;> (unfold testStopTaken; (repeat' split) <;> simp)

/-- A falling edge reaches the request unit alone. -/
@[simp] theorem edgeTaken_frame (i : Fin 4) (s : State) :
    (edgeTaken i s).resetLow = s.resetLow ∧ (edgeTaken i s).settings = s.settings ∧
    (edgeTaken i s).line = s.line ∧ (edgeTaken i s).bus = s.bus ∧ (edgeTaken i s).time = s.time ∧
    (edgeTaken i s).rx = s.rx ∧ (edgeTaken i s).pub = s.pub ∧ (edgeTaken i s).listen = s.listen ∧
    (edgeTaken i s).mix = s.mix ∧ (edgeTaken i s).meas = s.meas ∧ (edgeTaken i s).drive = s.drive ∧
    (edgeTaken i s).fault = s.fault ∧ (edgeTaken i s).test = s.test ∧ (edgeTaken i s).loader = s.loader ∧
    (edgeTaken i s).pending = s.pending := by
  refine ⟨?_, ?_, ?_, ?_, ?_, ?_, ?_, ?_, ?_, ?_, ?_, ?_, ?_, ?_, ?_⟩ <;> (unfold edgeTaken; (repeat' split) <;> simp)

/-- A sample that accepts nothing reaches the request unit alone. -/
@[simp] theorem observeInputs_frame (x : BitVec 4) (s : State) :
    (observeInputs x s).resetLow = s.resetLow ∧ (observeInputs x s).settings = s.settings ∧
    (observeInputs x s).line = s.line ∧ (observeInputs x s).bus = s.bus ∧ (observeInputs x s).time = s.time ∧
    (observeInputs x s).rx = s.rx ∧ (observeInputs x s).pub = s.pub ∧ (observeInputs x s).listen = s.listen ∧
    (observeInputs x s).mix = s.mix ∧ (observeInputs x s).meas = s.meas ∧ (observeInputs x s).drive = s.drive ∧
    (observeInputs x s).fault = s.fault ∧ (observeInputs x s).test = s.test ∧
    (observeInputs x s).loader = s.loader ∧ (observeInputs x s).pending = s.pending := by
  refine ⟨?_, ?_, ?_, ?_, ?_, ?_, ?_, ?_, ?_, ?_, ?_, ?_, ?_, ?_, ?_⟩ <;> simp [observeInputs]

/-- A sample of the inputs reaches the request unit alone. -/
@[simp] theorem sampleInputs_frame (x : BitVec 4) (s : State) :
    (sampleInputs x s).resetLow = s.resetLow ∧ (sampleInputs x s).settings = s.settings ∧
    (sampleInputs x s).line = s.line ∧ (sampleInputs x s).bus = s.bus ∧ (sampleInputs x s).time = s.time ∧
    (sampleInputs x s).rx = s.rx ∧ (sampleInputs x s).pub = s.pub ∧ (sampleInputs x s).listen = s.listen ∧
    (sampleInputs x s).mix = s.mix ∧ (sampleInputs x s).meas = s.meas ∧ (sampleInputs x s).drive = s.drive ∧
    (sampleInputs x s).fault = s.fault ∧ (sampleInputs x s).test = s.test ∧ (sampleInputs x s).loader = s.loader ∧
    (sampleInputs x s).pending = s.pending := by
  refine ⟨?_, ?_, ?_, ?_, ?_, ?_, ?_, ?_, ?_, ?_, ?_, ?_, ?_, ?_, ?_⟩
  · exact (foldl_keeps State.resetLow _ (fun _ _ => by simp) _ _).trans (by simp)
  · exact (foldl_keeps State.settings _ (fun _ _ => by simp) _ _).trans (by simp)
  · exact (foldl_keeps State.line _ (fun _ _ => by simp) _ _).trans (by simp)
  · exact (foldl_keeps State.bus _ (fun _ _ => by simp) _ _).trans (by simp)
  · exact (foldl_keeps State.time _ (fun _ _ => by simp) _ _).trans (by simp)
  · exact (foldl_keeps State.rx _ (fun _ _ => by simp) _ _).trans (by simp)
  · exact (foldl_keeps State.pub _ (fun _ _ => by simp) _ _).trans (by simp)
  · exact (foldl_keeps State.listen _ (fun _ _ => by simp) _ _).trans (by simp)
  · exact (foldl_keeps State.mix _ (fun _ _ => by simp) _ _).trans (by simp)
  · exact (foldl_keeps State.meas _ (fun _ _ => by simp) _ _).trans (by simp)
  · exact (foldl_keeps State.drive _ (fun _ _ => by simp) _ _).trans (by simp)
  · exact (foldl_keeps State.fault _ (fun _ _ => by simp) _ _).trans (by simp)
  · exact (foldl_keeps State.test _ (fun _ _ => by simp) _ _).trans (by simp)
  · exact (foldl_keeps State.loader _ (fun _ _ => by simp) _ _).trans (by simp)
  · exact (foldl_keeps State.pending _ (fun _ _ => by simp) _ _).trans (by simp)

/-- CLEAR reaches the flags, the listen table and the noise bucket alone. -/
@[simp] theorem clearTaken_frame (s : State) :
    (clearTaken s).resetLow = s.resetLow ∧ (clearTaken s).settings = s.settings ∧ (clearTaken s).line = s.line ∧
    (clearTaken s).bus = s.bus ∧ (clearTaken s).time = s.time ∧ (clearTaken s).pub = s.pub ∧
    (clearTaken s).mix = s.mix ∧ (clearTaken s).meas = s.meas ∧ (clearTaken s).drive = s.drive ∧
    (clearTaken s).req = s.req ∧ (clearTaken s).test = s.test ∧ (clearTaken s).loader = s.loader ∧
    (clearTaken s).pending = s.pending := by
  refine ⟨?_, ?_, ?_, ?_, ?_, ?_, ?_, ?_, ?_, ?_, ?_, ?_, ?_⟩ <;> simp [clearTaken]

/-- QUERY reaches the request unit alone. -/
@[simp] theorem queryTaken_frame (s : State) :
    (queryTaken s).resetLow = s.resetLow ∧ (queryTaken s).settings = s.settings ∧ (queryTaken s).line = s.line ∧
    (queryTaken s).bus = s.bus ∧ (queryTaken s).time = s.time ∧ (queryTaken s).rx = s.rx ∧
    (queryTaken s).pub = s.pub ∧ (queryTaken s).listen = s.listen ∧ (queryTaken s).mix = s.mix ∧
    (queryTaken s).meas = s.meas ∧ (queryTaken s).drive = s.drive ∧ (queryTaken s).fault = s.fault ∧
    (queryTaken s).test = s.test ∧ (queryTaken s).loader = s.loader ∧ (queryTaken s).pending = s.pending := by
  refine ⟨?_, ?_, ?_, ?_, ?_, ?_, ?_, ?_, ?_, ?_, ?_, ?_, ?_, ?_, ?_⟩ <;> simp [queryTaken]

/-- What a request can reach. -/
@[simp] theorem requestTaken_frame (c : Settings) (r : RequestRecord) (s : State) :
    (requestTaken c r s).resetLow = s.resetLow ∧ (requestTaken c r s).settings = s.settings ∧
    (requestTaken c r s).line = s.line ∧ (requestTaken c r s).bus = s.bus ∧ (requestTaken c r s).time = s.time ∧
    (requestTaken c r s).pub = s.pub ∧ (requestTaken c r s).meas = s.meas ∧
    (requestTaken c r s).loader = s.loader ∧ (requestTaken c r s).pending = s.pending := by
  refine ⟨?_, ?_, ?_, ?_, ?_, ?_, ?_, ?_, ?_⟩ <;> (unfold requestTaken; (repeat' split) <;> simp)

/-- What a REQUEST record can reach. -/
@[simp] theorem actOn_frame (c : Settings) (st : Station) (s : State) (r : RequestRecord) :
    (actOn c st s r).resetLow = s.resetLow ∧ (actOn c st s r).settings = s.settings ∧
    (actOn c st s r).line = s.line ∧ (actOn c st s r).bus = s.bus ∧ (actOn c st s r).time = s.time ∧
    (actOn c st s r).pub = s.pub ∧ (actOn c st s r).meas = s.meas ∧ (actOn c st s r).loader = s.loader ∧
    (actOn c st s r).pending = s.pending := by
  refine ⟨?_, ?_, ?_, ?_, ?_, ?_, ?_, ?_, ?_⟩ <;> (unfold actOn; (repeat' split) <;> simp)

/-- Leaving a time state reaches the time unit and the fault unit alone. -/
@[simp] theorem leaveTo_frame (st : TimeState) (s : State) :
    (leaveTo st s).resetLow = s.resetLow ∧ (leaveTo st s).settings = s.settings ∧ (leaveTo st s).line = s.line ∧
    (leaveTo st s).bus = s.bus ∧ (leaveTo st s).rx = s.rx ∧ (leaveTo st s).pub = s.pub ∧
    (leaveTo st s).listen = s.listen ∧ (leaveTo st s).mix = s.mix ∧ (leaveTo st s).meas = s.meas ∧
    (leaveTo st s).drive = s.drive ∧ (leaveTo st s).req = s.req ∧ (leaveTo st s).test = s.test ∧
    (leaveTo st s).loader = s.loader ∧ (leaveTo st s).pending = s.pending := by
  refine ⟨?_, ?_, ?_, ?_, ?_, ?_, ?_, ?_, ?_, ?_, ?_, ?_, ?_, ?_⟩ <;> simp [leaveTo]

/-- The lock window's end reaches the time unit and the fault unit alone. -/
@[simp] theorem windowExpired_frame (c : Settings) (s : State) :
    (windowExpired c s).resetLow = s.resetLow ∧ (windowExpired c s).settings = s.settings ∧
    (windowExpired c s).line = s.line ∧ (windowExpired c s).bus = s.bus ∧ (windowExpired c s).rx = s.rx ∧
    (windowExpired c s).pub = s.pub ∧ (windowExpired c s).listen = s.listen ∧ (windowExpired c s).mix = s.mix ∧
    (windowExpired c s).meas = s.meas ∧ (windowExpired c s).drive = s.drive ∧ (windowExpired c s).req = s.req ∧
    (windowExpired c s).test = s.test ∧ (windowExpired c s).loader = s.loader ∧
    (windowExpired c s).pending = s.pending := by
  refine ⟨?_, ?_, ?_, ?_, ?_, ?_, ?_, ?_, ?_, ?_, ?_, ?_, ?_, ?_⟩ <;> (unfold windowExpired; (repeat' split) <;> simp)

/-- The lock window's tick reaches the time unit and the fault unit alone. -/
@[simp] theorem windowTick_frame (c : Settings) (s : State) :
    (windowTick c s).resetLow = s.resetLow ∧ (windowTick c s).settings = s.settings ∧
    (windowTick c s).line = s.line ∧ (windowTick c s).bus = s.bus ∧ (windowTick c s).rx = s.rx ∧
    (windowTick c s).pub = s.pub ∧ (windowTick c s).listen = s.listen ∧ (windowTick c s).mix = s.mix ∧
    (windowTick c s).meas = s.meas ∧ (windowTick c s).drive = s.drive ∧ (windowTick c s).req = s.req ∧
    (windowTick c s).test = s.test ∧ (windowTick c s).loader = s.loader ∧ (windowTick c s).pending = s.pending := by
  refine ⟨?_, ?_, ?_, ?_, ?_, ?_, ?_, ?_, ?_, ?_, ?_, ?_, ?_, ?_⟩ <;> (unfold windowTick; (repeat' split) <;> simp)

/-- A replaced roster reaches the reception unit, the time state and LOCK_LOST alone. -/
@[simp] theorem replaceRoster_frame (c : Settings) (roster : Vector StationRecord 32) (s : State) :
    (replaceRoster c roster s).resetLow = s.resetLow ∧ (replaceRoster c roster s).settings = s.settings ∧
    (replaceRoster c roster s).line = s.line ∧ (replaceRoster c roster s).bus = s.bus ∧
    (replaceRoster c roster s).pub = s.pub ∧ (replaceRoster c roster s).listen = s.listen ∧
    (replaceRoster c roster s).mix = s.mix ∧ (replaceRoster c roster s).meas = s.meas ∧
    (replaceRoster c roster s).drive = s.drive ∧ (replaceRoster c roster s).req = s.req ∧
    (replaceRoster c roster s).test = s.test ∧ (replaceRoster c roster s).loader = s.loader ∧
    (replaceRoster c roster s).pending = s.pending := by
  refine ⟨?_, ?_, ?_, ?_, ?_, ?_, ?_, ?_, ?_, ?_, ?_, ?_, ?_⟩ <;> (unfold replaceRoster; (repeat' split) <;> simp)

/-- The roster's tick reaches the reception unit, the time state and LOCK_LOST alone. -/
@[simp] theorem rosterTick_frame (c : Settings) (s : State) :
    (rosterTick c s).resetLow = s.resetLow ∧ (rosterTick c s).settings = s.settings ∧
    (rosterTick c s).line = s.line ∧ (rosterTick c s).bus = s.bus ∧ (rosterTick c s).pub = s.pub ∧
    (rosterTick c s).listen = s.listen ∧ (rosterTick c s).mix = s.mix ∧ (rosterTick c s).meas = s.meas ∧
    (rosterTick c s).drive = s.drive ∧ (rosterTick c s).req = s.req ∧ (rosterTick c s).test = s.test ∧
    (rosterTick c s).loader = s.loader ∧ (rosterTick c s).pending = s.pending := by
  refine ⟨?_, ?_, ?_, ?_, ?_, ?_, ?_, ?_, ?_, ?_, ?_, ?_, ?_⟩ <;> simp [rosterTick]

/-- What the lock window, the roster and the mix reach at a tick, in any order. -/
@[simp] theorem orderedTick_frame (c : Settings) (stamp : Stamp) (order : TickOrder) (s : State) :
    (orderedTick c stamp order s).resetLow = s.resetLow ∧ (orderedTick c stamp order s).settings = s.settings ∧
    (orderedTick c stamp order s).line = s.line ∧ (orderedTick c stamp order s).bus = s.bus ∧
    (orderedTick c stamp order s).pub = s.pub ∧ (orderedTick c stamp order s).listen = s.listen ∧
    (orderedTick c stamp order s).meas = s.meas ∧ (orderedTick c stamp order s).req = s.req ∧
    (orderedTick c stamp order s).test = s.test ∧ (orderedTick c stamp order s).loader = s.loader ∧
    (orderedTick c stamp order s).pending = s.pending := by
  refine ⟨?_, ?_, ?_, ?_, ?_, ?_, ?_, ?_, ?_, ?_, ?_⟩ <;> (unfold orderedTick; (repeat' split) <;> simp)

/-- What a tick reaches. -/
@[simp] theorem tickWork_frame (c : Settings) (stamp : Stamp) (order : TickOrder) (s : State) :
    (tickWork c stamp order s).resetLow = s.resetLow ∧ (tickWork c stamp order s).settings = s.settings ∧
    (tickWork c stamp order s).line = s.line ∧ (tickWork c stamp order s).bus = s.bus ∧
    (tickWork c stamp order s).req = s.req ∧ (tickWork c stamp order s).loader = s.loader ∧
    (tickWork c stamp order s).pending = s.pending := by
  refine ⟨?_, ?_, ?_, ?_, ?_, ?_, ?_⟩ <;> simp [tickWork]

/-- What a tick reached by counting reaches. -/
@[simp] theorem countedTick_frame (c : Settings) (order : TickOrder) (s : State) :
    (countedTick c order s).resetLow = s.resetLow ∧ (countedTick c order s).settings = s.settings ∧
    (countedTick c order s).line = s.line ∧ (countedTick c order s).bus = s.bus ∧
    (countedTick c order s).req = s.req ∧ (countedTick c order s).pending = s.pending := by
  refine ⟨?_, ?_, ?_, ?_, ?_, ?_⟩ <;> simp [countedTick]

/-- Entry to RUN reaches the phase, the transmit state and the publisher alone. -/
@[simp] theorem enterRun_frame (c : Settings) (s : State) :
    (enterRun c s).resetLow = s.resetLow ∧ (enterRun c s).settings = s.settings ∧ (enterRun c s).line = s.line ∧
    (enterRun c s).time = s.time ∧ (enterRun c s).rx = s.rx ∧ (enterRun c s).listen = s.listen ∧
    (enterRun c s).mix = s.mix ∧ (enterRun c s).meas = s.meas ∧ (enterRun c s).drive = s.drive ∧
    (enterRun c s).fault = s.fault ∧ (enterRun c s).req = s.req ∧ (enterRun c s).test = s.test ∧
    (enterRun c s).pending = s.pending := by
  refine ⟨?_, ?_, ?_, ?_, ?_, ?_, ?_, ?_, ?_, ?_, ?_, ?_, ?_⟩ <;> simp [enterRun]

/-- Starting the clock reaches the time unit alone. -/
@[simp] theorem startClock_frame (st : TimeState) (value : Stamp) (s : State) :
    (startClock st value s).resetLow = s.resetLow ∧ (startClock st value s).settings = s.settings ∧
    (startClock st value s).line = s.line ∧ (startClock st value s).bus = s.bus ∧
    (startClock st value s).rx = s.rx ∧ (startClock st value s).pub = s.pub ∧
    (startClock st value s).listen = s.listen ∧ (startClock st value s).mix = s.mix ∧
    (startClock st value s).meas = s.meas ∧ (startClock st value s).drive = s.drive ∧
    (startClock st value s).fault = s.fault ∧ (startClock st value s).req = s.req ∧
    (startClock st value s).test = s.test ∧ (startClock st value s).loader = s.loader ∧
    (startClock st value s).pending = s.pending := by
  refine ⟨?_, ?_, ?_, ?_, ?_, ?_, ?_, ?_, ?_, ?_, ?_, ?_, ?_, ?_, ?_⟩ <;> simp [startClock]

/-- A jump reaches the time unit alone. -/
@[simp] theorem jump_frame (c : Settings) (diff : Int) (s : State) :
    (jump c diff s).resetLow = s.resetLow ∧ (jump c diff s).settings = s.settings ∧
    (jump c diff s).line = s.line ∧ (jump c diff s).bus = s.bus ∧ (jump c diff s).rx = s.rx ∧
    (jump c diff s).pub = s.pub ∧ (jump c diff s).listen = s.listen ∧ (jump c diff s).mix = s.mix ∧
    (jump c diff s).meas = s.meas ∧ (jump c diff s).drive = s.drive ∧ (jump c diff s).fault = s.fault ∧
    (jump c diff s).req = s.req ∧ (jump c diff s).test = s.test ∧ (jump c diff s).loader = s.loader ∧
    (jump c diff s).pending = s.pending := by
  refine ⟨?_, ?_, ?_, ?_, ?_, ?_, ?_, ?_, ?_, ?_, ?_, ?_, ?_, ?_, ?_⟩ <;> (unfold jump; (repeat' split) <;> simp)

/-- Judging a hand-off reaches the time unit and LOCK_LOST alone. -/
@[simp] theorem judgeDiff_frame (c : Settings) (diff : Int) (s : State) :
    (judgeDiff c diff s).resetLow = s.resetLow ∧ (judgeDiff c diff s).settings = s.settings ∧
    (judgeDiff c diff s).line = s.line ∧ (judgeDiff c diff s).bus = s.bus ∧ (judgeDiff c diff s).rx = s.rx ∧
    (judgeDiff c diff s).pub = s.pub ∧ (judgeDiff c diff s).listen = s.listen ∧ (judgeDiff c diff s).mix = s.mix ∧
    (judgeDiff c diff s).meas = s.meas ∧ (judgeDiff c diff s).drive = s.drive ∧ (judgeDiff c diff s).req = s.req ∧
    (judgeDiff c diff s).test = s.test ∧ (judgeDiff c diff s).loader = s.loader ∧
    (judgeDiff c diff s).pending = s.pending := by
  refine ⟨?_, ?_, ?_, ?_, ?_, ?_, ?_, ?_, ?_, ?_, ?_, ?_, ?_, ?_⟩ <;> (unfold judgeDiff; (repeat' split) <;> simp)

/-- What the quiet limit reaches. -/
@[simp] theorem quietLimitTaken_frame (c : Settings) (s : State) :
    (quietLimitTaken c s).resetLow = s.resetLow ∧ (quietLimitTaken c s).settings = s.settings ∧
    (quietLimitTaken c s).line = s.line ∧ (quietLimitTaken c s).rx = s.rx ∧
    (quietLimitTaken c s).listen = s.listen ∧ (quietLimitTaken c s).mix = s.mix ∧
    (quietLimitTaken c s).meas = s.meas ∧ (quietLimitTaken c s).fault = s.fault ∧
    (quietLimitTaken c s).req = s.req ∧ (quietLimitTaken c s).test = s.test ∧
    (quietLimitTaken c s).pending = s.pending := by
  refine ⟨?_, ?_, ?_, ?_, ?_, ?_, ?_, ?_, ?_, ?_, ?_⟩ <;> simp [quietLimitTaken]

/-- A pass start reaches the bus controller alone. -/
@[simp] theorem beginPass_frame (c : Settings) (s : State) :
    (beginPass c s).resetLow = s.resetLow ∧ (beginPass c s).settings = s.settings ∧
    (beginPass c s).line = s.line ∧ (beginPass c s).time = s.time ∧ (beginPass c s).rx = s.rx ∧
    (beginPass c s).pub = s.pub ∧ (beginPass c s).listen = s.listen ∧ (beginPass c s).mix = s.mix ∧
    (beginPass c s).meas = s.meas ∧ (beginPass c s).drive = s.drive ∧ (beginPass c s).fault = s.fault ∧
    (beginPass c s).req = s.req ∧ (beginPass c s).test = s.test ∧ (beginPass c s).loader = s.loader ∧
    (beginPass c s).pending = s.pending := by
  refine ⟨?_, ?_, ?_, ?_, ?_, ?_, ?_, ?_, ?_, ?_, ?_, ?_, ?_, ?_, ?_⟩ <;> simp [beginPass]

/-- What the line going busy reaches. -/
@[simp] theorem lineHeardBusy_frame (s : State) :
    (lineHeardBusy s).resetLow = s.resetLow ∧ (lineHeardBusy s).settings = s.settings ∧
    (lineHeardBusy s).time = s.time ∧ (lineHeardBusy s).pub = s.pub ∧ (lineHeardBusy s).listen = s.listen ∧
    (lineHeardBusy s).mix = s.mix ∧ (lineHeardBusy s).meas = s.meas ∧ (lineHeardBusy s).drive = s.drive ∧
    (lineHeardBusy s).fault = s.fault ∧ (lineHeardBusy s).req = s.req ∧ (lineHeardBusy s).test = s.test ∧
    (lineHeardBusy s).pending = s.pending := by
  refine ⟨?_, ?_, ?_, ?_, ?_, ?_, ?_, ?_, ?_, ?_, ?_, ?_⟩ <;> simp [lineHeardBusy]

/-- What the line going quiet reaches. -/
@[simp] theorem lineHeardQuiet_frame (s : State) :
    (lineHeardQuiet s).resetLow = s.resetLow ∧ (lineHeardQuiet s).settings = s.settings ∧
    (lineHeardQuiet s).time = s.time ∧ (lineHeardQuiet s).rx = s.rx ∧ (lineHeardQuiet s).pub = s.pub ∧
    (lineHeardQuiet s).listen = s.listen ∧ (lineHeardQuiet s).mix = s.mix ∧ (lineHeardQuiet s).meas = s.meas ∧
    (lineHeardQuiet s).drive = s.drive ∧ (lineHeardQuiet s).fault = s.fault ∧ (lineHeardQuiet s).req = s.req ∧
    (lineHeardQuiet s).test = s.test ∧ (lineHeardQuiet s).loader = s.loader ∧
    (lineHeardQuiet s).pending = s.pending := by
  refine ⟨?_, ?_, ?_, ?_, ?_, ?_, ?_, ?_, ?_, ?_, ?_, ?_, ?_, ?_⟩ <;> simp [lineHeardQuiet]

/-- The end of a BACKOFF reaches the bus controller alone. -/
@[simp] theorem endBackoff_frame (s : State) :
    (endBackoff s).resetLow = s.resetLow ∧ (endBackoff s).settings = s.settings ∧ (endBackoff s).line = s.line ∧
    (endBackoff s).time = s.time ∧ (endBackoff s).rx = s.rx ∧ (endBackoff s).pub = s.pub ∧
    (endBackoff s).listen = s.listen ∧ (endBackoff s).mix = s.mix ∧ (endBackoff s).meas = s.meas ∧
    (endBackoff s).drive = s.drive ∧ (endBackoff s).fault = s.fault ∧ (endBackoff s).req = s.req ∧
    (endBackoff s).test = s.test ∧ (endBackoff s).loader = s.loader ∧ (endBackoff s).pending = s.pending := by
  refine ⟨?_, ?_, ?_, ?_, ?_, ?_, ?_, ?_, ?_, ?_, ?_, ?_, ?_, ?_, ?_⟩ <;> simp [endBackoff]

/-- What a frame start reaches. -/
@[simp] theorem startFrame_frame (c : Settings) (k : BusClass) (s : State) :
    (startFrame c k s).resetLow = s.resetLow ∧ (startFrame c k s).settings = s.settings ∧
    (startFrame c k s).time = s.time ∧ (startFrame c k s).rx = s.rx ∧ (startFrame c k s).listen = s.listen ∧
    (startFrame c k s).mix = s.mix ∧ (startFrame c k s).meas = s.meas ∧ (startFrame c k s).drive = s.drive ∧
    (startFrame c k s).req = s.req ∧ (startFrame c k s).test = s.test ∧ (startFrame c k s).loader = s.loader ∧
    (startFrame c k s).pending = s.pending := by
  refine ⟨?_, ?_, ?_, ?_, ?_, ?_, ?_, ?_, ?_, ?_, ?_, ?_⟩ <;> simp [startFrame]

/-- What a slot boundary reaches. -/
@[simp] theorem slotBoundaryTaken_frame (c : Settings) (slot : Nat) (s : State) :
    (slotBoundaryTaken c slot s).resetLow = s.resetLow ∧ (slotBoundaryTaken c slot s).settings = s.settings ∧
    (slotBoundaryTaken c slot s).time = s.time ∧ (slotBoundaryTaken c slot s).rx = s.rx ∧
    (slotBoundaryTaken c slot s).listen = s.listen ∧ (slotBoundaryTaken c slot s).mix = s.mix ∧
    (slotBoundaryTaken c slot s).meas = s.meas ∧ (slotBoundaryTaken c slot s).drive = s.drive ∧
    (slotBoundaryTaken c slot s).req = s.req ∧ (slotBoundaryTaken c slot s).test = s.test ∧
    (slotBoundaryTaken c slot s).loader = s.loader ∧ (slotBoundaryTaken c slot s).pending = s.pending := by
  refine ⟨?_, ?_, ?_, ?_, ?_, ?_, ?_, ?_, ?_, ?_, ?_, ?_⟩ <;> (unfold slotBoundaryTaken; (repeat' split) <;> simp)

/-- Judging the consecutive collisions reaches the bus controller and CONTENTION alone. -/
@[simp] theorem collisionsJudged_frame (s : State) :
    (collisionsJudged s).resetLow = s.resetLow ∧ (collisionsJudged s).settings = s.settings ∧
    (collisionsJudged s).line = s.line ∧ (collisionsJudged s).time = s.time ∧ (collisionsJudged s).rx = s.rx ∧
    (collisionsJudged s).pub = s.pub ∧ (collisionsJudged s).listen = s.listen ∧ (collisionsJudged s).mix = s.mix ∧
    (collisionsJudged s).meas = s.meas ∧ (collisionsJudged s).drive = s.drive ∧ (collisionsJudged s).req = s.req ∧
    (collisionsJudged s).test = s.test ∧ (collisionsJudged s).loader = s.loader ∧
    (collisionsJudged s).pending = s.pending := by
  refine ⟨?_, ?_, ?_, ?_, ?_, ?_, ?_, ?_, ?_, ?_, ?_, ?_, ?_, ?_⟩ <;> (unfold collisionsJudged; (repeat' split) <;> simp)

/-- What a collided frame leaves pending, and its counts. -/
@[simp] theorem collidedItems_frame (f : FrameCopy) (s : State) :
    (collidedItems f s).resetLow = s.resetLow ∧ (collidedItems f s).settings = s.settings ∧
    (collidedItems f s).line = s.line ∧ (collidedItems f s).time = s.time ∧ (collidedItems f s).rx = s.rx ∧
    (collidedItems f s).listen = s.listen ∧ (collidedItems f s).mix = s.mix ∧ (collidedItems f s).meas = s.meas ∧
    (collidedItems f s).drive = s.drive ∧ (collidedItems f s).req = s.req ∧
    (collidedItems f s).loader = s.loader ∧ (collidedItems f s).pending = s.pending := by
  refine ⟨?_, ?_, ?_, ?_, ?_, ?_, ?_, ?_, ?_, ?_, ?_, ?_⟩ <;> simp [collidedItems]

/-- What a collided end reaches. -/
@[simp] theorem collidedEnd_frame (f : FrameCopy) (s : State) :
    (collidedEnd f s).resetLow = s.resetLow ∧ (collidedEnd f s).settings = s.settings ∧
    (collidedEnd f s).line = s.line ∧ (collidedEnd f s).time = s.time ∧ (collidedEnd f s).rx = s.rx ∧
    (collidedEnd f s).listen = s.listen ∧ (collidedEnd f s).mix = s.mix ∧ (collidedEnd f s).meas = s.meas ∧
    (collidedEnd f s).drive = s.drive ∧ (collidedEnd f s).req = s.req ∧ (collidedEnd f s).loader = s.loader ∧
    (collidedEnd f s).pending = s.pending := by
  refine ⟨?_, ?_, ?_, ?_, ?_, ?_, ?_, ?_, ?_, ?_, ?_, ?_⟩ <;> simp [collidedEnd]

/-- What the releases of a clean end reach. -/
@[simp] theorem releaseCarried_frame (c : Settings) (f : FrameCopy) (s : State) :
    (releaseCarried c f s).resetLow = s.resetLow ∧ (releaseCarried c f s).settings = s.settings ∧
    (releaseCarried c f s).line = s.line ∧ (releaseCarried c f s).time = s.time ∧
    (releaseCarried c f s).rx = s.rx ∧ (releaseCarried c f s).listen = s.listen ∧
    (releaseCarried c f s).mix = s.mix ∧ (releaseCarried c f s).meas = s.meas ∧
    (releaseCarried c f s).drive = s.drive ∧ (releaseCarried c f s).loader = s.loader ∧
    (releaseCarried c f s).pending = s.pending := by
  refine ⟨?_, ?_, ?_, ?_, ?_, ?_, ?_, ?_, ?_, ?_, ?_⟩ <;> simp [releaseCarried]

/-- What a clean end reaches. -/
@[simp] theorem cleanEnd_frame (c : Settings) (f : FrameCopy) (s : State) :
    (cleanEnd c f s).resetLow = s.resetLow ∧ (cleanEnd c f s).settings = s.settings ∧
    (cleanEnd c f s).line = s.line ∧ (cleanEnd c f s).time = s.time ∧ (cleanEnd c f s).meas = s.meas ∧
    (cleanEnd c f s).loader = s.loader ∧ (cleanEnd c f s).pending = s.pending := by
  refine ⟨?_, ?_, ?_, ?_, ?_, ?_, ?_⟩
  · exact (foldl_keeps State.resetLow _ (fun _ _ => by simp) _ _).trans (by simp)
  · exact (foldl_keeps State.settings _ (fun _ _ => by simp) _ _).trans (by simp)
  · exact (foldl_keeps State.line _ (fun _ _ => by simp) _ _).trans (by simp)
  · exact (foldl_keeps State.time _ (fun _ _ => by simp) _ _).trans (by simp)
  · exact (foldl_keeps State.meas _ (fun _ _ => by simp) _ _).trans (by simp)
  · exact (foldl_keeps State.loader _ (fun _ _ => by simp) _ _).trans (by simp)
  · exact (foldl_keeps State.pending _ (fun _ _ => by simp) _ _).trans (by simp)

/-- What the end of an own frame reaches. -/
@[simp] theorem ownFrameEnd_frame (c : Settings) (s : State) :
    (ownFrameEnd c s).resetLow = s.resetLow ∧ (ownFrameEnd c s).settings = s.settings ∧
    (ownFrameEnd c s).line = s.line ∧ (ownFrameEnd c s).time = s.time ∧ (ownFrameEnd c s).meas = s.meas ∧
    (ownFrameEnd c s).loader = s.loader ∧ (ownFrameEnd c s).pending = s.pending := by
  refine ⟨?_, ?_, ?_, ?_, ?_, ?_, ?_⟩ <;> (unfold ownFrameEnd; (repeat' split) <;> simp)

/-- Judging the noise bucket reaches the fault unit alone. -/
@[simp] theorem bucketJudged_frame (s : State) :
    (bucketJudged s).resetLow = s.resetLow ∧ (bucketJudged s).settings = s.settings ∧
    (bucketJudged s).line = s.line ∧ (bucketJudged s).bus = s.bus ∧ (bucketJudged s).time = s.time ∧
    (bucketJudged s).rx = s.rx ∧ (bucketJudged s).pub = s.pub ∧ (bucketJudged s).listen = s.listen ∧
    (bucketJudged s).mix = s.mix ∧ (bucketJudged s).meas = s.meas ∧ (bucketJudged s).drive = s.drive ∧
    (bucketJudged s).req = s.req ∧ (bucketJudged s).test = s.test ∧ (bucketJudged s).loader = s.loader ∧
    (bucketJudged s).pending = s.pending := by
  refine ⟨?_, ?_, ?_, ?_, ?_, ?_, ?_, ?_, ?_, ?_, ?_, ?_, ?_, ?_, ?_⟩ <;> simp [bucketJudged]

/-- Filling the bucket reaches the reception unit and LINK_NOISE alone. -/
@[simp] theorem fillBucket_frame (s : State) :
    (fillBucket s).resetLow = s.resetLow ∧ (fillBucket s).settings = s.settings ∧ (fillBucket s).line = s.line ∧
    (fillBucket s).bus = s.bus ∧ (fillBucket s).time = s.time ∧ (fillBucket s).pub = s.pub ∧
    (fillBucket s).listen = s.listen ∧ (fillBucket s).mix = s.mix ∧ (fillBucket s).meas = s.meas ∧
    (fillBucket s).drive = s.drive ∧ (fillBucket s).req = s.req ∧ (fillBucket s).test = s.test ∧
    (fillBucket s).loader = s.loader ∧ (fillBucket s).pending = s.pending := by
  refine ⟨?_, ?_, ?_, ?_, ?_, ?_, ?_, ?_, ?_, ?_, ?_, ?_, ?_, ?_⟩ <;> (unfold fillBucket; (repeat' split) <;> simp)

/-- What a corrupted frame reaches. -/
@[simp] theorem corruptedFrame_frame (s : State) :
    (corruptedFrame s).resetLow = s.resetLow ∧ (corruptedFrame s).settings = s.settings ∧
    (corruptedFrame s).line = s.line ∧ (corruptedFrame s).bus = s.bus ∧ (corruptedFrame s).time = s.time ∧
    (corruptedFrame s).pub = s.pub ∧ (corruptedFrame s).listen = s.listen ∧ (corruptedFrame s).mix = s.mix ∧
    (corruptedFrame s).meas = s.meas ∧ (corruptedFrame s).drive = s.drive ∧ (corruptedFrame s).req = s.req ∧
    (corruptedFrame s).loader = s.loader ∧ (corruptedFrame s).pending = s.pending := by
  refine ⟨?_, ?_, ?_, ?_, ?_, ?_, ?_, ?_, ?_, ?_, ?_, ?_, ?_⟩ <;> simp [corruptedFrame]

/-- Muting reaches the bus controller alone. -/
@[simp] theorem mute_frame (s : State) :
    (mute s).resetLow = s.resetLow ∧ (mute s).settings = s.settings ∧ (mute s).line = s.line ∧
    (mute s).time = s.time ∧ (mute s).rx = s.rx ∧ (mute s).pub = s.pub ∧ (mute s).listen = s.listen ∧
    (mute s).mix = s.mix ∧ (mute s).meas = s.meas ∧ (mute s).drive = s.drive ∧ (mute s).fault = s.fault ∧
    (mute s).req = s.req ∧ (mute s).test = s.test ∧ (mute s).loader = s.loader ∧ (mute s).pending = s.pending := by
  refine ⟨?_, ?_, ?_, ?_, ?_, ?_, ?_, ?_, ?_, ?_, ?_, ?_, ?_, ?_, ?_⟩ <;> simp [mute]

/-- A twin frame reaches the bus controller and TWIN alone. -/
@[simp] theorem twinFrame_frame (s : State) :
    (twinFrame s).resetLow = s.resetLow ∧ (twinFrame s).settings = s.settings ∧ (twinFrame s).line = s.line ∧
    (twinFrame s).time = s.time ∧ (twinFrame s).rx = s.rx ∧ (twinFrame s).pub = s.pub ∧
    (twinFrame s).listen = s.listen ∧ (twinFrame s).mix = s.mix ∧ (twinFrame s).meas = s.meas ∧
    (twinFrame s).drive = s.drive ∧ (twinFrame s).req = s.req ∧ (twinFrame s).test = s.test ∧
    (twinFrame s).loader = s.loader ∧ (twinFrame s).pending = s.pending := by
  refine ⟨?_, ?_, ?_, ?_, ?_, ?_, ?_, ?_, ?_, ?_, ?_, ?_, ?_, ?_⟩ <;> simp [twinFrame]

/-- What a foreign frame reaches. -/
@[simp] theorem foreignFrame_frame (sender : Station) (s : State) :
    (foreignFrame sender s).resetLow = s.resetLow ∧ (foreignFrame sender s).settings = s.settings ∧
    (foreignFrame sender s).line = s.line ∧ (foreignFrame sender s).time = s.time ∧
    (foreignFrame sender s).pub = s.pub ∧ (foreignFrame sender s).listen = s.listen ∧
    (foreignFrame sender s).mix = s.mix ∧ (foreignFrame sender s).meas = s.meas ∧
    (foreignFrame sender s).drive = s.drive ∧ (foreignFrame sender s).req = s.req ∧
    (foreignFrame sender s).test = s.test ∧ (foreignFrame sender s).loader = s.loader ∧
    (foreignFrame sender s).pending = s.pending := by
  refine ⟨?_, ?_, ?_, ?_, ?_, ?_, ?_, ?_, ?_, ?_, ?_, ?_, ?_⟩ <;> simp [foreignFrame]

/-- What an adoption reaches. -/
@[simp] theorem adopt_frame (c : Settings) (f : HeardFrame) (s : State) :
    (adopt c f s).resetLow = s.resetLow ∧ (adopt c f s).settings = s.settings ∧ (adopt c f s).line = s.line ∧
    (adopt c f s).rx = s.rx ∧ (adopt c f s).listen = s.listen ∧ (adopt c f s).mix = s.mix ∧
    (adopt c f s).meas = s.meas ∧ (adopt c f s).drive = s.drive ∧ (adopt c f s).fault = s.fault ∧
    (adopt c f s).req = s.req ∧ (adopt c f s).test = s.test ∧ (adopt c f s).pending = s.pending := by
  refine ⟨?_, ?_, ?_, ?_, ?_, ?_, ?_, ?_, ?_, ?_, ?_, ?_⟩ <;> simp [adopt]

/-- What a stamp hand-off reaches. -/
@[simp] theorem handOff_frame (c : Settings) (f : HeardFrame) (s : State) :
    (handOff c f s).resetLow = s.resetLow ∧ (handOff c f s).settings = s.settings ∧
    (handOff c f s).line = s.line ∧ (handOff c f s).rx = s.rx ∧ (handOff c f s).listen = s.listen ∧
    (handOff c f s).mix = s.mix ∧ (handOff c f s).meas = s.meas ∧ (handOff c f s).drive = s.drive ∧
    (handOff c f s).req = s.req ∧ (handOff c f s).test = s.test ∧ (handOff c f s).pending = s.pending := by
  refine ⟨?_, ?_, ?_, ?_, ?_, ?_, ?_, ?_, ?_, ?_, ?_⟩ <;> (unfold handOff; (repeat' split) <;> simp)

/-- The roster update reaches the reception unit alone. -/
@[simp] theorem rosterUpdate_frame (f : HeardFrame) (s : State) :
    (rosterUpdate f s).resetLow = s.resetLow ∧ (rosterUpdate f s).settings = s.settings ∧
    (rosterUpdate f s).line = s.line ∧ (rosterUpdate f s).bus = s.bus ∧ (rosterUpdate f s).time = s.time ∧
    (rosterUpdate f s).pub = s.pub ∧ (rosterUpdate f s).listen = s.listen ∧ (rosterUpdate f s).mix = s.mix ∧
    (rosterUpdate f s).meas = s.meas ∧ (rosterUpdate f s).drive = s.drive ∧ (rosterUpdate f s).fault = s.fault ∧
    (rosterUpdate f s).req = s.req ∧ (rosterUpdate f s).test = s.test ∧ (rosterUpdate f s).loader = s.loader ∧
    (rosterUpdate f s).pending = s.pending := by
  refine ⟨?_, ?_, ?_, ?_, ?_, ?_, ?_, ?_, ?_, ?_, ?_, ?_, ?_, ?_, ?_⟩ <;> simp [rosterUpdate]

/-- A NOTE record reaches the roster and REMOTE alone. -/
@[simp] theorem noteTakenFrom_frame (c : Settings) (sender : Station) (r : NoteRecord) (s : State) :
    (noteTakenFrom c sender r s).resetLow = s.resetLow ∧ (noteTakenFrom c sender r s).settings = s.settings ∧
    (noteTakenFrom c sender r s).line = s.line ∧ (noteTakenFrom c sender r s).bus = s.bus ∧
    (noteTakenFrom c sender r s).time = s.time ∧ (noteTakenFrom c sender r s).pub = s.pub ∧
    (noteTakenFrom c sender r s).listen = s.listen ∧ (noteTakenFrom c sender r s).mix = s.mix ∧
    (noteTakenFrom c sender r s).meas = s.meas ∧ (noteTakenFrom c sender r s).drive = s.drive ∧
    (noteTakenFrom c sender r s).req = s.req ∧ (noteTakenFrom c sender r s).test = s.test ∧
    (noteTakenFrom c sender r s).loader = s.loader ∧ (noteTakenFrom c sender r s).pending = s.pending := by
  refine ⟨?_, ?_, ?_, ?_, ?_, ?_, ?_, ?_, ?_, ?_, ?_, ?_, ?_, ?_⟩ <;> simp [noteTakenFrom]

/-- What a handed record or block reaches. -/
@[simp] theorem takeHanded_frame (c : Settings) (sender : Station) (s : State) (h : Handed) :
    (takeHanded c sender s h).resetLow = s.resetLow ∧ (takeHanded c sender s h).settings = s.settings ∧
    (takeHanded c sender s h).line = s.line ∧ (takeHanded c sender s h).bus = s.bus ∧
    (takeHanded c sender s h).time = s.time ∧ (takeHanded c sender s h).pub = s.pub ∧
    (takeHanded c sender s h).meas = s.meas ∧ (takeHanded c sender s h).loader = s.loader ∧
    (takeHanded c sender s h).pending = s.pending := by
  refine ⟨?_, ?_, ?_, ?_, ?_, ?_, ?_, ?_, ?_⟩ <;> (unfold takeHanded; (repeat' split) <;> simp)

/-- A matching frame leaves the settings, the line, RESET_N and the queue. -/
@[simp] theorem matchingFrame_frame (c : Settings) (place : JumpTick) (order : TickOrder) (f : HeardFrame) (s : State) :
    (matchingFrame c place order f s).resetLow = s.resetLow ∧
    (matchingFrame c place order f s).settings = s.settings ∧ (matchingFrame c place order f s).line = s.line ∧
    (matchingFrame c place order f s).pending = s.pending := by
  unfold matchingFrame
  refine ⟨?_, ?_, ?_, ?_⟩
  · cases place <;> cases handOffTick c f s <;>
      simp [foldl_keeps State.resetLow (takeHanded c f.station) (fun _ _ => by simp)]
  · cases place <;> cases handOffTick c f s <;>
      simp [foldl_keeps State.settings (takeHanded c f.station) (fun _ _ => by simp)]
  · cases place <;> cases handOffTick c f s <;>
      simp [foldl_keeps State.line (takeHanded c f.station) (fun _ _ => by simp)]
  · cases place <;> cases handOffTick c f s <;>
      simp [foldl_keeps State.pending (takeHanded c f.station) (fun _ _ => by simp)]

/-- A judged frame leaves the settings, the line, RESET_N and the queue. -/
@[simp] theorem judgeHeard_frame (c : Settings) (heard : Heard) (place : JumpTick) (order : TickOrder) (s : State) :
    (judgeHeard c heard place order s).resetLow = s.resetLow ∧
    (judgeHeard c heard place order s).settings = s.settings ∧ (judgeHeard c heard place order s).line = s.line ∧
    (judgeHeard c heard place order s).pending = s.pending := by
  refine ⟨?_, ?_, ?_, ?_⟩ <;> (unfold judgeHeard; (repeat' split) <;> simp)

/-- A frame end leaves the settings, the line, RESET_N and the queue. -/
@[simp] theorem frameEnded_frame (c : Settings) (heard : Heard) (place : JumpTick) (order : TickOrder) (s : State) :
    (frameEnded c heard place order s).resetLow = s.resetLow ∧
    (frameEnded c heard place order s).settings = s.settings ∧ (frameEnded c heard place order s).line = s.line ∧
    (frameEnded c heard place order s).pending = s.pending := by
  refine ⟨?_, ?_, ?_, ?_⟩ <;> (unfold frameEnded; (repeat' split) <;> simp)

/-- A rejection reaches the loader and CONFIG alone. -/
@[simp] theorem reject_frame (s : State) :
    (reject s).resetLow = s.resetLow ∧ (reject s).settings = s.settings ∧ (reject s).line = s.line ∧
    (reject s).bus = s.bus ∧ (reject s).time = s.time ∧ (reject s).rx = s.rx ∧ (reject s).pub = s.pub ∧
    (reject s).listen = s.listen ∧ (reject s).mix = s.mix ∧ (reject s).meas = s.meas ∧
    (reject s).drive = s.drive ∧ (reject s).req = s.req ∧ (reject s).test = s.test ∧ (reject s).pending = s.pending := by
  refine ⟨?_, ?_, ?_, ?_, ?_, ?_, ?_, ?_, ?_, ?_, ?_, ?_, ?_, ?_⟩ <;> simp [reject]

/-- What an acceptance reaches. -/
@[simp] theorem accept_frame (c : Settings) (s : State) :
    (accept c s).resetLow = s.resetLow ∧ (accept c s).line = s.line ∧ (accept c s).bus = s.bus ∧
    (accept c s).time = s.time ∧ (accept c s).rx = s.rx ∧ (accept c s).pub = s.pub ∧
    (accept c s).listen = s.listen ∧ (accept c s).meas = s.meas ∧ (accept c s).req = s.req ∧
    (accept c s).test = s.test ∧ (accept c s).pending = s.pending := by
  refine ⟨?_, ?_, ?_, ?_, ?_, ?_, ?_, ?_, ?_, ?_, ?_⟩ <;> simp [accept]

/-- What the judgement of an image reaches. -/
@[simp] theorem imageJudged_frame (image : List Byte) (s : State) :
    (imageJudged image s).resetLow = s.resetLow ∧ (imageJudged image s).line = s.line ∧
    (imageJudged image s).bus = s.bus ∧ (imageJudged image s).time = s.time ∧ (imageJudged image s).rx = s.rx ∧
    (imageJudged image s).pub = s.pub ∧ (imageJudged image s).listen = s.listen ∧
    (imageJudged image s).meas = s.meas ∧ (imageJudged image s).req = s.req ∧
    (imageJudged image s).test = s.test ∧ (imageJudged image s).pending = s.pending := by
  refine ⟨?_, ?_, ?_, ?_, ?_, ?_, ?_, ?_, ?_, ?_, ?_⟩ <;> (unfold imageJudged; (repeat' split) <;> simp)

/-- The end of the wait reaches the loader and CONFIG alone. -/
@[simp] theorem waitEnded_frame (n : Nat) (s : State) :
    (waitEnded n s).resetLow = s.resetLow ∧ (waitEnded n s).settings = s.settings ∧
    (waitEnded n s).line = s.line ∧ (waitEnded n s).bus = s.bus ∧ (waitEnded n s).time = s.time ∧
    (waitEnded n s).rx = s.rx ∧ (waitEnded n s).pub = s.pub ∧ (waitEnded n s).listen = s.listen ∧
    (waitEnded n s).mix = s.mix ∧ (waitEnded n s).meas = s.meas ∧ (waitEnded n s).drive = s.drive ∧
    (waitEnded n s).req = s.req ∧ (waitEnded n s).test = s.test ∧ (waitEnded n s).pending = s.pending := by
  refine ⟨?_, ?_, ?_, ?_, ?_, ?_, ?_, ?_, ?_, ?_, ?_, ?_, ?_, ?_⟩ <;> (unfold waitEnded; (repeat' split) <;> simp)

end Sys2Proof.Machine
end

