-- ==== Sys2Proof/Laws/Advance.lean ====
section
/-! SUPPORT. The passing of time and a raise, field by field: what stands through them, and what does not. -/

namespace Sys2Proof.Machine

variable (s : State) (us : Nat) (f : Flag)

/-- The time unit keeps all but its clock, which gains the microseconds while it runs. -/
@[simp] theorem advance_time : (s.advance us).time.state = s.time.state ∧
    (s.advance us).time.lockTimer = s.time.lockTimer ∧ (s.advance us).time.skipped = s.time.skipped ∧
    (s.advance us).time.laggards = s.time.laggards ∧ (s.advance us).time.lastTick = s.time.lastTick := by
  simp only [State.advance, State.time_setDrive, State.time_setLoader, State.time_setTime, TimeUnit.count]
  split <;> simp

theorem advance_clock (h : s.time.state ≠ .stopped) :
    (s.advance us).time.clock = s.time.clock + BitVec.ofNat 32 us := by
  simp [State.advance, TimeUnit.count, h]

theorem advance_time_stopped (h : s.time.state = .stopped) : (s.advance us).time = s.time := by
  simp [State.advance, TimeUnit.count, h]

/-- The loader keeps all but its listen quiet timer. -/
@[simp] theorem advance_loader : (s.advance us).loader.phase = s.loader.phase ∧
    (s.advance us).loader.attempts = s.loader.attempts ∧ (s.advance us).loader.stage = s.loader.stage ∧
    (s.advance us).loader.freeing = s.loader.freeing ∧ (s.advance us).loader.sent = s.loader.sent ∧
     (s.advance us).loader.buffer = s.loader.buffer := by
  simp only [State.advance, State.loader_setDrive, State.loader_setLoader, Loader.count]
  split <;> simp

/-- The drive unit keeps all but its PWM timer. -/
@[simp] theorem advance_drive : (s.advance us).drive.state = s.drive.state ∧
    (s.advance us).drive.stop = s.drive.stop ∧ (s.advance us).drive.attn = s.drive.attn ∧
    (s.advance us).drive.duty = s.drive.duty ∧ (s.advance us).drive.direction = s.drive.direction ∧
    (s.advance us).drive.pendingSetting = s.drive.pendingSetting ∧ (s.advance us).drive.drvEn = s.drive.drvEn ∧
    (s.advance us).drive.drvPwm = s.drive.drvPwm ∧ (s.advance us).drive.drvDir = s.drive.drvDir := by
  simp [State.advance, DriveUnit.count]

/-- No route changes as time passes. -/
@[simp] theorem advance_routes : (s.advance us).stopRoutes = s.stopRoutes ∧
    (s.advance us).noteRoutes = s.noteRoutes := by
  simp [State.stopRoutes, State.noteRoutes]

/-- A raise is the fault unit's own. -/
theorem raise_fault : (raise f s).fault = s.fault.raise s.stopRoutes s.noteRoutes s.now f := rfl

/-- A raise acts alike on two states that agree in the fault unit, the settings and the time unit. -/
theorem raise_fault_congr {s t : State} (h₁ : s.fault = t.fault) (h₂ : s.settings = t.settings)
    (h₃ : s.time = t.time) : (raise f s).fault = (raise f t).fault := by
  simp [raise_fault, State.stopRoutes, State.noteRoutes, State.now, h₁, h₂, h₃]

end Sys2Proof.Machine
end

