-- ==== Sys2Proof/Laws/Change.lean ====
section
/-! SUPPORT. What a command can do, said once: every command is a chain of the small changes listed here, each under
the guard that the manual gives it. A property that each change keeps is kept by every command (Keeps.exec). -/

namespace Sys2Proof.Machine

/-- The small changes of the part. -/
inductive Change : State → State → Prop
  -- time, flags and requests to the whole part
  | advance (s : State) (us : Nat) : Change s (s.advance us)
  | raise (s : State) (f : Flag) (h₁ : f ≠ .twin) (h₂ : f ≠ .config) : Change s (Machine.raise f s)
  | clear (s : State) : Change s (clearTaken s)
  | line (s : State) (x : Line) : Change s (s.setLine x)
  -- the drive unit
  | disarm (s : State) (h : s.drive.state = .active ∨ s.drive.state = .hold ∨ s.drive.state = .coast) :
      Change s (enterDisarmed s)
  | coast (s : State) (h : s.drive.state = .active ∨ s.drive.state = .hold) : Change s (enterCoast s)
  | arm (s : State) (h : s.drive.state = .disarmed ∨ s.drive.state = .hold) : Change s (enterActive s)
  | hold (s : State) (h : s.drive.state = .active) : Change s (s.setDrive { s.drive with state := .hold })
  | sense (s : State) (x y : LineFilter) : Change s (s.setDrive { s.drive with stop := x, attn := y })
  | period (s : State) : Change s (s.setDrive s.drive.applySetting.beginPeriod)
  | onTime (s : State) : Change s (s.setDrive s.drive.endOnTime)
  -- the request unit
  | refuse (s : State) (k : Refusable) : Change s (Machine.refuse k s)
  | inputs (s : State) (v : Vector InputFilter 4) : Change s (s.setReq { s.req with inputs := v })
  | join (s : State) (r : PendingRequest) : Change s (s.setReq { s.req with list := joinList s.req.list r })
  | query (s : State) : Change s (queryTaken s)
  -- the measurement unit
  | meas (s : State) (m : Measurement)
      (h : m.failureRun = 0 ∨ m.failureRun = s.meas.failureRun ∨
        m.failureRun = satAdd Config.count8 s.meas.failureRun 1)
      (hp : s.meas.PortFollows → m.PortFollows) : Change s (s.setMeas m)
  -- the listen table and the mix
  | slot (s : State) (c : Settings) (k : Fin 12) (bound : Stamp) (sender : Station) (samples : List Sample)
      (h : s.settings = some c) :
      Change s (s.setListen (putAt s.listen k ((s.listen.get k).takeRecord bound sender samples)))
  | listenTick (s : State) (c : Settings) (h : s.settings = some c) : Change s (Machine.listenTick c s)
  | mix (s : State) (c : Settings) (v : LocalValues) (mask : BitVec 3) (se si : Int) (h : s.settings = some c) :
      Change s ((s.setMix (s.mix.afterTick c v mask se si s.drive.state)).setDrive { s.drive with
        pendingSetting := some { effort := (s.mix.afterTick c v mask se si s.drive.state).effort,
                                 state := s.drive.state } })
  -- the publisher
  | entry (s : State) (c : Settings) (i : Fin 8) (e : PublishEntry) (x : PublishState) (h : s.settings = some c)
      (he : c.entryAt i = some e)
      (ha : x.acc = (s.pub.entries.get i).acc ∨ x.acc < e.step ∨ x.acc + e.step = (s.pub.entries.get i).acc ∨
        x.acc + e.step = (s.pub.entries.get i).acc + 4) : Change s (s.setPub (s.pub.setEntry i x))
  | outbox (s : State) (c : Settings) (i : Fin 8) (e : PublishEntry) (r : OutboxRequest) (h : s.settings = some c)
      (he : c.entryAt i = some e) (ht : r.tag = e.tag) : Change s (s.setPub (s.pub.takeRequest c r))
  | beat (s : State) (c : Settings) (n : Nat) (due : Bool) (h : s.settings = some c)
      (hn : n = s.pub.beatTimer ∨ n ≤ c.beatInterval) :
      Change s (s.setPub { s.pub with beatTimer := n, beatDue := due })
  -- the time unit
  | lastTick (s : State) (x : Stamp) : Change s (s.setTime { s.time with lastTick := x })
  | lockTimer (s : State) (h : s.time.lockTimer < Config.lockWindow) :
      Change s (s.setTime { s.time with lockTimer := s.time.lockTimer + 1 })
  | leave (s : State) (st : TimeState) (h₁ : s.time.state ≠ .stopped) (h₂ : st = .alone ∨ st = .adrift) :
      Change s (leaveTo st s)
  | jump (s : State) (c : Settings) (diff : Int) (h : s.time.state ≠ .stopped) : Change s (Machine.jump c diff s)
  | agree (s : State) (h : s.time.state ≠ .stopped) :
      Change s (s.setTime { s.time with state := .locked, lockTimer := 0 })
  | adopt (s : State) (c : Settings) (f : HeardFrame) (h : s.settings = some c) (hp : s.loader.phase = .listen) :
      Change s (Machine.adopt c f s)
  | quietLimit (s : State) (c : Settings) (h : s.settings = some c) (hp : s.loader.phase = .listen) :
      Change s (quietLimitTaken c s)
  -- the reception unit
  | corrupted (s : State) :
      Change s (s.setRx { s.rx with corrupted := satAdd Config.count16 s.rx.corrupted 1 })
  | bucket (s : State) (h : s.rx.noiseBucket < Config.bucketFull) :
      Change s (s.setRx { s.rx with noiseBucket := s.rx.noiseBucket + 1 })
  | leakTick (s : State) : Change s (s.setRx s.rx.tick)
  | leak (s : State) : Change s (s.setRx s.rx.leakJudged)
  | arrival (s : State) (x : Stamp) : Change s (s.setRx { s.rx with arrival := x })
  | expire (s : State) (v : Vector StationRecord 32)
      (h : ∀ j, v.get j = s.rx.roster.get j ∨ v.get j = { s.rx.roster.get j with present := false }) :
      Change s (s.setRx { s.rx with roster := v })
  | record (s : State) (c : Settings) (sender : Station) (x : StationRecord) (h : s.settings = some c)
      (hs : sender ≠ c.station) (hm : x.missed = (s.rx.recordOf sender).missed ∨ x.missed ≤ Config.count8) :
      Change s (s.setRx (s.rx.setRecord sender x))
  | twin (s : State) (h : s.bus.tx ≠ .sending) : Change s (twinFrame s)
  -- the bus controller
  | bus (s : State) (b : BusController) (h₁ : b.tx = s.bus.tx) (h₂ : b.consecutive = s.bus.consecutive)
      (h₃ : b.collisionTotal = s.bus.collisionTotal) (h₄ : b.quietWheels = s.bus.quietWheels) : Change s (s.setBus b)
  | pass (s : State) : Change s (s.setBus s.bus.passDone)
  | ready (s : State) (b : BusController) (h : s.bus.tx = .backoff) (h₁ : b.tx = .ready)
      (h₂ : b.consecutive = s.bus.consecutive) (h₃ : b.collisionTotal = s.bus.collisionTotal)
      (h₄ : b.quietWheels = s.bus.quietWheels) : Change s (s.setBus b)
  | frame (s : State) (c : Settings) (k : BusClass) (h : s.bus.tx = .ready) (hs : s.settings = some c) :
      Change s (startFrame c k s)
  | collided (s : State) (f : FrameCopy) (h : s.bus.tx = .sending) : Change s (collidedEnd f s)
  | clean (s : State) (c : Settings) (f : FrameCopy) (h : s.bus.tx = .sending) : Change s (releaseCarried c f s)
  | noCopy (s : State) (h : s.bus.tx = .sending) : Change s (s.setBus s.bus.endFrame)
  | judged (s : State) : Change s (collisionsJudged s)
  -- the test unit
  | sendTick (s : State) : Change s (s.setTest s.test.tick)
  | testBlock (s : State) (sender : Station) (b : TestBlock) : Change s (s.setTest (s.test.takeBlock sender b))
  | testCorrupted (s : State) : Change s (s.setTest s.test.corruptedFrame)
  | testStart (s : State) (own sender : Station) (n : Nat) : Change s (s.setTest (s.test.start own sender n))
  | testEnd (s : State) : Change s (s.setTest s.test.finish)
  | testQuiet (s : State) : Change s (s.setTest s.test.quietJudged)
  | pulse (s : State) : Change s (s.setTest s.test.endHalf)
  -- the loader
  | notQuiet (s : State) : Change s (s.setLoader { s.loader with listenQuiet := 0 })
  | attempt (s : State) (l : Loader) (h : s.loader.stage = .attempting ∨ s.loader.stage = .waiting)
      (h₁ : l.stage = .attempting ∨ l.stage = .waiting) (h₂ : l.phase = s.loader.phase)
      (h₃ : l.attempts = s.loader.attempts ∨ s.loader.attempts < Config.maxRetries ∧ l.attempts = s.loader.attempts + 1)
      (h₄ : l.listenQuiet = s.loader.listenQuiet) : Change s (s.setLoader l)
  | reject (s : State) (h : s.loader.stage = .attempting ∨ s.loader.stage = .waiting) : Change s (Machine.reject s)
  | accept (s : State) (c : Settings) (image : List Byte) (h : s.loader.stage = .attempting)
      (hc : judgeImage image = some c) : Change s (Machine.accept c s)
  | release (s : State) (n : Nat) (h : s.resetLow = true) :
      Change s (((s.setResetLow false).setLoader ({ s.loader with attempts := 0 }.beginAttempt n)).setDrive
        { s.drive with pwmTimer := some 0 })
  | reset (s : State) :
      Change s { State.reset with line := { busy := s.line.busy, abandoned := s.line.busy }, pending := s.pending }

/-- A chain of changes. -/
inductive Reach (s : State) : State → Prop
  | refl : Reach s s
  | step {t u : State} : Reach s t → Change t u → Reach s u

theorem Change.reach {s t : State} (h : Change s t) : Reach s t := .step .refl h

theorem Reach.trans {s t u : State} (h₁ : Reach s t) (h₂ : Reach t u) : Reach s u := by
  induction h₂ with
  | refl => exact h₁
  | step _ h ih => exact .step ih h

theorem Reach.foldl {β : Type} (P : State → Prop) (f : State → β → State) (hP : ∀ s b, P s → P (f s b))
    (h : ∀ s b, P s → Reach s (f s b)) (l : List β) (s : State) (hs : P s) : Reach s (l.foldl f s) := by
  induction l generalizing s with
  | nil => exact .refl
  | cons b l ih => exact (h s b hs).trans (ih (f s b) (hP s b hs))

/-! ## The operations as chains -/

theorem raiseIf_reach (b : Bool) (f : Flag) (s : State) (h₁ : f ≠ .twin) (h₂ : f ≠ .config) :
    Reach s (raiseIf b f s) := by
  unfold raiseIf; split
  · exact (Change.raise s f h₁ h₂).reach
  · exact .refl

theorem armTaken_reach (s : State) : Reach s (armTaken s) := by
  unfold armTaken; split
  · split
    · exact (Change.arm s (by simp_all)).reach
    · exact (Change.refuse s _).reach
  · split
    · exact (Change.arm s (by simp_all)).reach
    · exact (Change.refuse s _).reach
  · exact (Change.refuse s _).reach
  all_goals exact .refl

theorem disarmTaken_reach (s : State) : Reach s (disarmTaken s) := by
  unfold disarmTaken; split
  all_goals first
    | exact .refl
    | exact (Change.disarm s (by simp_all)).reach

theorem senseStop_reach (level : Bool) (s : State) : Reach s (senseStop level s) := by
  have h := (Change.sense s ((s.drive.stop.sample level).sample level) s.drive.attn).reach
  unfold senseStop stopAsserted stopReleased; dsimp only; split
  · exact h
  · refine h.trans ?_
    split
    · split
      · split
        · exact (Change.hold _ (by assumption)).reach
        · exact (Change.coast _ (by simp_all)).reach
      · exact .refl
    · split
      · exact (Change.disarm _ (by simp_all)).reach
      all_goals exact .refl

theorem senseAttn_reach (level : Bool) (s : State) : Reach s (senseAttn level s) := by
  have h := (Change.sense s s.drive.stop ((s.drive.attn.sample level).sample level)).reach
  unfold senseAttn attnAsserted; dsimp only; split
  · exact h
  · refine h.trans ?_
    have hr (t : State) : Reach t (raise .driveAttn t) := (Change.raise t .driveAttn (by decide) (by decide)).reach
    split
    · split
      · exact (hr _).trans (Change.coast _ (by simp_all)).reach
      · exact (hr _).trans (Change.coast _ (by simp_all)).reach
      all_goals exact hr _
    · exact .refl

theorem sampleEncoder_reach (x : EncSample) (s : State) : Reach s (sampleEncoder x s) :=
  (Change.meas s _ (.inr (.inl (by rfl))) (by exact fun h => h)).reach.trans
    (raiseIf_reach _ _ _ (by decide) (by decide))

theorem observeEncoder_reach (x : EncSample) (s : State) : Reach s (observeEncoder x s) :=
  (Change.meas s _ (.inr (.inl (by rfl))) (by exact fun h => h)).reach

theorem exchangeFailed_reach (s : State) : Reach s (exchangeFailed s) :=
  (Change.meas s _ (.inr (.inr (by rfl))) (by exact fun h => h)).reach.trans
    (raiseIf_reach _ _ _ (by decide) (by decide))

theorem exchangeCompleted_reach (w : BitVec 32) (s : State) : Reach s (exchangeCompleted w s) := by
  unfold exchangeCompleted; dsimp only; split
  · exact (Change.meas s _ (.inl (by rfl)) fun _ => by simp [Measurement.PortFollows, Measurement.idlePort]).reach
  · exact (Change.meas s _ (.inr (.inl (by rfl))) fun _ => by
      simp [Measurement.PortFollows, Measurement.idlePort]).reach.trans (exchangeFailed_reach _)

theorem measureTick_reach (s : State) : Reach s (measureTick s) := by
  unfold measureTick; split
  · exact (Change.meas s _ (.inr (.inl (by rfl))) fun _ => by
      simp [Measurement.PortFollows, Measurement.beginExchange]).reach
  all_goals exact (Change.meas s _ (.inr (.inl (by rfl))) fun _ => by
    simp [Measurement.PortFollows, Measurement.idlePort]).reach.trans (exchangeFailed_reach _)

theorem tagTaken_reach (c : Settings) (sender : Station) (r : TagRecord) (s : State) (h : s.settings = some c) :
    Reach s (tagTaken c sender r s) := by
  unfold tagTaken; split
  · exact .refl
  · exact (Change.slot s c _ _ sender _ h).reach.trans (raiseIf_reach _ _ _ (by decide) (by decide))

theorem mixTick_reach (c : Settings) (stamp : Stamp) (s : State) (h : s.settings = some c) :
    Reach s (mixTick c stamp s) :=
  (Change.mix s c _ _ _ _ h).reach.trans ((raiseIf_reach _ _ _ (by decide) (by decide)).trans
    ((raiseIf_reach _ _ _ (by decide) (by decide)).trans (raiseIf_reach _ _ _ (by decide) (by decide))))

theorem burstTaken_reach (c : Settings) (i : Fin 8) (s : State) (h : s.settings = some c) :
    Reach s (burstTaken c i s) := by
  unfold burstTaken; split
  · rename_i e y he hy
    dsimp only; split
    · exact (Change.entry s c i e { (s.pub.entries.get i) with gather := [] } h he (.inl rfl)).reach.trans
        (Change.outbox _ c i e _ (by simpa using h) he rfl).reach
    · exact .refl
  · exact .refl

theorem sampleDue_reach (c : Settings) (i : Fin 8) (e : PublishEntry) (acc : Nat) (s : State) (h : s.settings = some c)
    (he : c.entryAt i = some e) (hd : e.step ≤ acc)
    (ha : acc = (s.pub.entries.get i).acc ∨ acc = (s.pub.entries.get i).acc + 4) :
    Reach s (sampleDue c i e acc s) := by
  have hx : acc - e.step = (s.pub.entries.get i).acc ∨ acc - e.step < e.step ∨
      acc - e.step + e.step = (s.pub.entries.get i).acc ∨ acc - e.step + e.step = (s.pub.entries.get i).acc + 4 := by
    omega
  unfold sampleDue; dsimp only; split
  · exact (Change.entry s c i e _ h he hx).reach.trans (Change.outbox _ c i e _ (by simpa using h) he rfl).reach
  · exact (Change.entry s c i e _ h he hx).reach.trans (burstTaken_reach c i _ (by simpa using h))

theorem sampleTaken_reach (c : Settings) (i : Fin 8) (s : State) (h : s.settings = some c) :
    Reach s (sampleTaken c i s) := by
  unfold sampleTaken; split
  · exact .refl
  · split
    · exact sampleDue_reach c i _ _ s h (by assumption) (by assumption) (.inl rfl)
    · exact .refl

theorem entryTick_reach (c : Settings) (s : State) (i : Fin 8) (h : s.settings = some c) :
    Reach s (entryTick c s i) := by
  unfold entryTick; split
  · exact .refl
  · dsimp only; split
    · exact sampleDue_reach c i _ _ s h (by assumption) (by assumption) (.inr rfl)
    · exact (Change.entry s c i _ _ h (by assumption) (.inr (.inl (by simp only; omega)))).reach

theorem publishTick_reach (c : Settings) (s : State) (h : s.settings = some c) : Reach s (publishTick c s) :=
  Reach.foldl (·.settings = some c) _ (fun s i hs => by simpa using hs) (fun s i hs => entryTick_reach c s i hs) _ s h

theorem testStartTaken_reach (c : Settings) (sender : Station) (count : Half) (s : State) :
    Reach s (testStartTaken c sender count s) := by
  unfold testStartTaken; split
  · exact (Change.testStart s _ _ _).reach
  all_goals first
    | exact (Change.refuse s _).reach
    | exact .refl

theorem testStopTaken_reach (c : Settings) (sender : Station) (s : State) : Reach s (testStopTaken c sender s) := by
  unfold testStopTaken; split
  · exact (Change.testEnd s).reach
  · exact .refl

theorem edgeTaken_reach (i : Fin 4) (s : State) : Reach s (edgeTaken i s) := by
  unfold edgeTaken; split
  · exact .refl
  · split
    · exact .refl
    · split
      · exact (Change.join s _).reach
      · exact .refl

theorem sampleInputs_reach (x : BitVec 4) (s : State) : Reach s (sampleInputs x s) :=
  (Change.inputs s _).reach.trans
    (Reach.foldl (fun _ => True) _ (fun _ _ _ => trivial) (fun t i _ => edgeTaken_reach i t) _ _ trivial)

theorem requestTaken_reach (c : Settings) (r : RequestRecord) (s : State) : Reach s (requestTaken c r s) := by
  unfold requestTaken; split
  · exact armTaken_reach s
  · exact disarmTaken_reach s
  · exact (Change.clear s).reach
  · exact (Change.query s).reach
  · exact testStartTaken_reach c _ _ s
  · exact testStopTaken_reach c _ s

theorem actOn_reach (c : Settings) (st : Station) (s : State) (r : RequestRecord) : Reach s (actOn c st s r) := by
  unfold actOn; split
  · exact requestTaken_reach c r s
  · exact .refl

theorem windowExpired_reach (c : Settings) (s : State) : Reach s (windowExpired c s) := by
  unfold windowExpired; split
  · exact (Change.leave s _ (by simp_all) (by simp)).reach
  · exact .refl

theorem windowTick_reach (c : Settings) (s : State) : Reach s (windowTick c s) := by
  unfold windowTick; split
  · exact (Change.lockTimer s (by simp_all)).reach.trans (windowExpired_reach c _)
  · exact .refl

theorem replaceRoster_reach (c : Settings) (v : Vector StationRecord 32) (s : State)
    (hv : ∀ j, v.get j = s.rx.roster.get j ∨ v.get j = { s.rx.roster.get j with present := false })
    (ht : s.time.state ≠ .stopped) : Reach s (replaceRoster c v s) := by
  have h := (Change.expire s v hv).reach
  unfold replaceRoster; dsimp only; split
  · exact h.trans (Change.leave _ _ (by simpa using ht) (by simp)).reach
  · exact h

@[simp] theorem get_ofFn {α : Type} {n : Nat} (f : Fin n → α) (i : Fin n) : (Vector.ofFn f).get i = f i := by
  simp [Vector.get_eq_getElem]

@[simp] theorem get_mapAt {α : Type} {n : Nat} (f : Fin n → α → α) (v : Vector α n) (i : Fin n) :
    (mapAt f v).get i = f i (v.get i) := by simp [mapAt]

theorem get_putAt {α : Type} {n : Nat} (v : Vector α n) (i j : Fin n) (a : α) :
    (putAt v i a).get j = if j = i then a else v.get j := by simp [putAt]

@[simp] theorem get_putAt_self {α : Type} {n : Nat} (v : Vector α n) (i : Fin n) (a : α) :
    (putAt v i a).get i = a := by simp [get_putAt]

theorem expire_or (c : Settings) (now : Stamp) (r : StationRecord) :
    r.expire c now = r ∨ r.expire c now = { r with present := false } := by
  unfold StationRecord.expire; split <;> simp

theorem rosterTick_reach (c : Settings) (s : State) (ht : s.time.state ≠ .stopped) : Reach s (rosterTick c s) :=
  replaceRoster_reach c _ s (fun j => by rw [get_mapAt]; exact expire_or c _ _) ht

/-- The clock does not stop within a tick. -/
theorem leaveTo_runs (st : TimeState) (s : State) (h : st ≠ .stopped) : (leaveTo st s).time.state ≠ .stopped := by
  simpa [leaveTo] using h

theorem windowTick_runs (c : Settings) (s : State) (h : s.time.state ≠ .stopped) :
    (windowTick c s).time.state ≠ .stopped := by
  unfold windowTick windowExpired; split
  · split
    · exact leaveTo_runs _ _ (by decide)
    · simpa using h
  · exact h

theorem rosterTick_runs (c : Settings) (s : State) (h : s.time.state ≠ .stopped) :
    (rosterTick c s).time.state ≠ .stopped := by
  unfold rosterTick replaceRoster; dsimp only; split
  · exact leaveTo_runs _ _ (by decide)
  · simpa using h

theorem orderedTick_reach (c : Settings) (stamp : Stamp) (order : TickOrder) (s : State) (h : s.settings = some c)
    (ht : s.time.state ≠ .stopped) : Reach s (orderedTick c stamp order s) := by
  have w (t : State) : Reach t (windowTick c t) := windowTick_reach c t
  cases order
  · exact (w s).trans ((rosterTick_reach c _ (windowTick_runs c s ht)).trans (mixTick_reach c stamp _ (by simpa using h)))
  · exact (w s).trans ((mixTick_reach c stamp _ (by simpa using h)).trans
      (rosterTick_reach c _ (by simpa using windowTick_runs c s ht)))
  · exact (rosterTick_reach c s ht).trans ((w _).trans (mixTick_reach c stamp _ (by simpa using h)))
  · exact (rosterTick_reach c s ht).trans ((mixTick_reach c stamp _ (by simpa using h)).trans (w _))
  · exact (mixTick_reach c stamp s h).trans ((w _).trans
      (rosterTick_reach c _ (windowTick_runs c _ (by simpa using ht))))
  · exact (mixTick_reach c stamp s h).trans ((rosterTick_reach c _ (by simpa using ht)).trans (w _))

theorem beatTick_reach (c : Settings) (s : State) (h : s.settings = some c) : Reach s (s.setPub (s.pub.beatTick c)) := by
  rw [show s.pub.beatTick c =
      { s.pub with beatTimer := (s.pub.beatTick c).beatTimer, beatDue := (s.pub.beatTick c).beatDue }
    from by unfold Publisher.beatTick Publisher.beatJudged; (repeat' split) <;> rfl]
  refine (Change.beat s c _ _ h ?_).reach
  unfold Publisher.beatTick Publisher.beatJudged; (repeat' split) <;> simp_all

theorem tickWork_reach (c : Settings) (stamp : Stamp) (order : TickOrder) (s : State) (h : s.settings = some c)
    (ht : s.time.state ≠ .stopped) : Reach s (tickWork c stamp order s) := by
  unfold tickWork
  refine (Change.lastTick s stamp).reach.trans ?_
  refine (measureTick_reach _).trans ?_
  refine (Change.listenTick _ c (by simpa using h)).reach.trans ?_
  refine (Change.leakTick _).reach.trans ?_
  refine (Change.sendTick _).reach.trans ?_
  refine (orderedTick_reach c stamp order _ (by simpa using h) (by simpa using ht)).trans ?_
  refine (publishTick_reach c _ (by simpa using h)).trans ?_
  exact beatTick_reach c _ (by simpa using h)

theorem countedTick_reach (c : Settings) (order : TickOrder) (s : State) (h : s.settings = some c)
    (ht : s.time.state ≠ .stopped) : Reach s (countedTick c order s) :=
  (Change.advance s _).reach.trans (tickWork_reach c _ order _ (by simpa using h)
    (by simp [State.advance, TimeUnit.count, ht]))

theorem judgeDiff_reach (c : Settings) (diff : Int) (s : State) (ht : s.time.state ≠ .stopped) :
    Reach s (judgeDiff c diff s) := by
  unfold judgeDiff; split
  · exact (Change.agree s ht).reach
  · split
    · exact (Change.leave s _ ht (by simp)).reach
    · exact .refl

theorem beginPass_reach (c : Settings) (s : State) : Reach s (beginPass c s) :=
  (Change.bus s _ (by rfl) (by rfl) (by rfl) (by rfl)).reach

theorem lineHeardBusy_reach (s : State) : Reach s (lineHeardBusy s) :=
  (Change.line s _).reach.trans ((Change.arrival _ _).reach.trans ((Change.notQuiet _).reach.trans
    (Change.bus _ _ (by rfl) (by rfl) (by rfl) (by rfl)).reach))

theorem lineHeardQuiet_reach (s : State) : Reach s (lineHeardQuiet s) :=
  (Change.line s _).reach.trans (Change.bus _ _ (by rfl) (by rfl) (by rfl) (by rfl)).reach

theorem endBackoff_reach (s : State) : Reach s (endBackoff s) := by
  by_cases h : s.bus.tx = .backoff
  · unfold endBackoff; rw [if_pos h]
    exact (Change.ready s _ h (by rfl) (by rfl) (by rfl) (by rfl)).reach
  · unfold endBackoff; rw [if_neg h]
    exact (Change.bus s _ (by rfl) (by rfl) (by rfl) (by rfl)).reach

theorem slotBoundaryTaken_reach (c : Settings) (slot : Nat) (s : State) (h : s.settings = some c) :
    Reach s (slotBoundaryTaken c slot s) := by
  have hw := (Change.bus s { s.bus with wheel := .pass (slot + 1) } (by rfl) (by rfl) (by rfl) (by rfl)).reach
  unfold slotBoundaryTaken; dsimp only; split
  · exact hw
  · split
    · exact hw.trans (Change.frame _ c _ (by simp_all) (by simpa using h)).reach
    · exact hw

theorem cleanEnd_reach (c : Settings) (f : FrameCopy) (s : State) (h : s.bus.tx = .sending) :
    Reach s (cleanEnd c f s) :=
  (Change.clean s c f h).reach.trans
    (Reach.foldl (fun _ => True) _ (fun _ _ _ => trivial) (fun t r _ => actOn_reach c c.station t r) _ _ trivial)

theorem ownFrameEnd_reach (c : Settings) (s : State) (h : s.bus.tx = .sending) : Reach s (ownFrameEnd c s) := by
  unfold ownFrameEnd; split
  · exact (Change.noCopy s h).reach
  · split
    · exact (Change.collided s _ h).reach
    · exact cleanEnd_reach c _ s h

theorem corruptedFrame_reach (s : State) : Reach s (corruptedFrame s) := by
  have fill (t : State) : Reach t (fillBucket t) := by
    unfold fillBucket; split
    · exact (Change.bucket t (by assumption)).reach.trans (raiseIf_reach _ _ _ (by decide) (by decide))
    · exact .refl
  exact (Change.corrupted s).reach.trans ((fill _).trans (Change.testCorrupted _).reach)

theorem foreignFrame_reach (c : Settings) (sender : Station) (s : State) (h : s.settings = some c)
    (hs : sender ≠ c.station) : Reach s (foreignFrame sender s) :=
  (Change.raise s .period (by decide) (by decide)).reach.trans
    ((Change.record _ c sender _ (by simpa using h) hs (.inl (by rfl))).reach.trans (endBackoff_reach _))

theorem handOff_reach (c : Settings) (f : HeardFrame) (s : State) (h : s.settings = some c) :
    Reach s (handOff c f s) := by
  unfold handOff; split
  · split
    · exact (Change.adopt s c f h (by assumption)).reach
    · exact .refl
  · rename_i ht
    refine (Change.jump s c _ ht).reach.trans (judgeDiff_reach c _ _ ?_)
    unfold jump; dsimp only; split
    · simpa using ht
    · split <;> simpa using ht

theorem noteTakenFrom_reach (c : Settings) (sender : Station) (r : NoteRecord) (s : State) (h : s.settings = some c)
    (hs : sender ≠ c.station) : Reach s (noteTakenFrom c sender r s) :=
  (Change.record s c sender _ h hs (.inl (by rfl))).reach.trans (raiseIf_reach _ _ _ (by decide) (by decide))

theorem takeHanded_reach (c : Settings) (sender : Station) (s : State) (x : Handed) (h : s.settings = some c)
    (hs : sender ≠ c.station) : Reach s (takeHanded c sender s x) := by
  unfold takeHanded; split
  · exact tagTaken_reach c sender _ s h
  · exact noteTakenFrom_reach c sender _ s h hs
  · exact actOn_reach c sender s _
  · exact .refl
  · exact (Change.testBlock s _ _).reach

/-- The hand-off leaves a running clock running. -/
theorem handOff_runs (c : Settings) (f : HeardFrame) (s : State) (h : s.time.state ≠ .stopped) :
    (handOff c f s).time.state ≠ .stopped := by
  have hj (d : Int) : (jump c d s).time.state = s.time.state := by
    unfold jump; dsimp only; split
    · rfl
    · split <;> rfl
  unfold handOff judgeDiff; rw [if_neg h]; split
  · simp
  · split
    · exact leaveTo_runs _ _ (by decide)
    · rwa [hj]

theorem matchingFrame_reach (c : Settings) (place : JumpTick) (order : TickOrder) (f : HeardFrame) (s : State)
    (h : s.settings = some c) (hs : f.station ≠ c.station) : Reach s (matchingFrame c place order f s) := by
  have fold (l : List Handed) (t : State) (ht : t.settings = some c) :
      Reach t (l.foldl (takeHanded c f.station) t) :=
    Reach.foldl (·.settings = some c) _ (fun s i hs => by simpa using hs)
      (fun t x ht => takeHanded_reach c f.station t x ht hs) l t ht
  have foldTime (l : List Handed) (t : State) : (l.foldl (takeHanded c f.station) t).time = t.time :=
    foldl_keeps State.time _ (fun _ _ => by simp) l t
  have foldSettings (l : List Handed) (t : State) : (l.foldl (takeHanded c f.station) t).settings = t.settings :=
    foldl_keeps State.settings _ (fun _ _ => by simp) l t
  have h0 : Reach s (endBackoff (handOff c f s)) := (handOff_reach c f s h).trans (endBackoff_reach _)
  have update (t : State) (ht : t.settings = some c) : Reach t (rosterUpdate f t) :=
    (Change.record t c _ _ ht hs (by
      unfold StationRecord.update StationRecord.missedAfter satAdd; dsimp only; split
      · exact .inr (Nat.min_le_left _ _)
      · exact .inl rfl)).reach
  cases ht : handOffTick c f s with
  | none =>
    unfold matchingFrame; simp only [ht]
    cases place
    all_goals
      refine (h0.trans ((update _ (by simpa using h)).trans ((fold _ _ (by simpa using h)).trans
        (fold _ _ (by rw [foldSettings]; simpa using h)))))
  | some stamp =>
    have hr : s.time.state ≠ .stopped := by
      intro hst; simp [handOffTick, hst] at ht
    have hr' := handOff_runs c f s hr
    unfold matchingFrame; simp only [ht]
    cases place
    · exact h0.trans ((tickWork_reach c stamp order _ (by simpa using h) (by simpa using hr')).trans
        ((update _ (by simpa using h)).trans ((fold _ _ (by simpa using h)).trans
          (fold _ _ (by rw [foldSettings]; simpa using h)))))
    · exact h0.trans ((update _ (by simpa using h)).trans ((fold _ _ (by simpa using h)).trans
        ((tickWork_reach c stamp order _ (by rw [foldSettings]; simpa using h)
          (by rw [foldTime]; simpa using hr')).trans
          (fold _ _ (by simp [foldSettings, h])))))

theorem frameEnded_reach (c : Settings) (heard : Heard) (place : JumpTick) (order : TickOrder) (s : State)
    (h : s.settings = some c) : Reach s (frameEnded c heard place order s) := by
  unfold frameEnded; split
  · exact ownFrameEnd_reach c s (by assumption)
  · split
    · unfold judgeHeard; split
      · exact corruptedFrame_reach s
      · split
        · exact (Change.twin s (by assumption)).reach
        · split
          · exact foreignFrame_reach c _ s h (by assumption)
          · exact matchingFrame_reach c place order _ s h (by assumption)
    · exact .refl

/-! ## The commands -/

/-- A command without settings, or with them. -/
theorem settings_reach (s : State) (f : Settings → State) (h : ∀ c, s.settings = some c → Reach s (f c)) :
    Reach s (match s.settings with
      | none => s
      | some c => f c) := by
  cases hs : s.settings with
  | none => exact .refl
  | some c => exact h c hs

/-- A timed command without settings, or with them. -/
theorem timed_reach (s : State) (dt : Nat) (f : Settings → State)
    (h : ∀ c, s.settings = some c → Reach (s.advance dt) (f c)) :
    Reach s (match s.settings with
      | none => s.advance dt
      | some c => f c) := by
  have ha : Reach s (s.advance dt) := (Change.advance s dt).reach
  cases hs : s.settings with
  | none => exact ha
  | some c => exact ha.trans (h c hs)

/-- A failed attempt leaves the loader in the wait, its counts and its buffer as they were. -/
theorem Loader.fail_frame (cause : AttemptFault) (l : Loader) :
    (l.fail cause).stage = .waiting ∧ (l.fail cause).phase = l.phase ∧ (l.fail cause).attempts = l.attempts ∧
    (l.fail cause).listenQuiet = l.listenQuiet ∧ (l.fail cause).buffer = l.buffer := by
  cases cause <;> exact ⟨rfl, rfl, rfl, rfl, rfl⟩

/-- A clock held too long leaves the loader in the wait and its counts as they were. -/
theorem Loader.stretched_frame (held : HeldClock) (l : Loader) :
    (l.stretched held).stage = .waiting ∧ (l.stretched held).phase = l.phase ∧
    (l.stretched held).attempts = l.attempts ∧ (l.stretched held).listenQuiet = l.listenQuiet := by
  cases held <;> exact ⟨rfl, rfl, rfl, rfl⟩

/-- Whatever a command answers is a chain of changes of the state it was given. -/
theorem exec_reach (i : Instr) (s t : State) (h : exec i s = .next t) : Reach s t := by
  have adv (dt : Nat) : Reach s (s.advance dt) := (Change.advance s dt).reach
  have ite' (p : Prop) [Decidable p] (a b : State) (ha : p → Reach s a) (hb : Reach s b) :
      Reach s (if p then a else b) := by
    split
    · exact ha (by assumption)
    · exact hb
  cases i
  all_goals
    have h' := Host.Outcome.next.inj h
    subst h'
  case reset => exact (Change.reset s).reach
  case resetRelease n =>
    exact ite' _ _ _ (fun h => (Change.release s n h).reach) .refl
  case attemptComplete image =>
    refine ite' _ _ _ (fun h => ?_) .refl
    have hb := (Change.attempt s { s.loader with buffer := image, sent := s.loader.sent ++ transactionActs } (.inl h.1)
      (by simp [h]) (by rfl) (.inl (by rfl)) (by rfl)).reach
    unfold imageJudged; dsimp only; split
    · exact hb.trans (Change.reject _ (.inl (by simp [h.1]))).reach
    · exact hb.trans (Change.accept _ _ image (by simp [h.1]) (by assumption)).reach
  case attemptFailure cause =>
    have ⟨h₁, h₂, h₃, h₄, _⟩ := s.loader.fail_frame cause
    exact ite' _ _ _ (fun h => (Change.attempt s _ (.inl h) (.inr h₁) h₂ (.inl h₃) h₄).reach) .refl
  case clockStretchTimeout held =>
    have ⟨h₁, h₂, h₃, h₄⟩ := s.loader.stretched_frame held
    exact ite' _ _ _ (fun h => (Change.attempt s _ (.inl h.1) (.inr h₁) h₂ (.inl h₃) h₄).reach) .refl
  case retryWaitEnd n =>
    refine ite' _ _ _ (fun h => ?_) .refl
    unfold waitEnded; split
    · refine (Change.attempt s _ (.inr h) ?_ (by rfl) (.inr ⟨by assumption, by rfl⟩) (by rfl)).reach
      unfold Loader.beginAttempt; dsimp only; split <;> simp
    · exact (Change.reject s (.inr h)).reach
  case quietLimit =>
    exact settings_reach s _ fun c hc => ite' _ _ _ (fun h => (Change.quietLimit s c hc h.1).reach) .refl
  case lineBusy dt =>
    exact ite' _ _ _ (fun _ => adv dt) ((adv dt).trans (lineHeardBusy_reach _))
  case frameEnd dt heard place order =>
    exact (timed_reach s dt _ fun c hc => frameEnded_reach c heard place order _ (by simpa using hc)).trans
      (lineHeardQuiet_reach _)
  case gapEnd dt =>
    refine timed_reach s dt _ fun c hc => ?_
    split
    · exact beginPass_reach c _
    · exact .refl
  case passComplete dt =>
    refine timed_reach s dt _ fun c hc => ?_
    split
    · exact (Change.pass (s.advance dt)).reach.trans (beginPass_reach c _)
    · exact .refl
  case slotBoundary dt slot =>
    refine timed_reach s dt _ fun c hc => ?_
    split
    · exact slotBoundaryTaken_reach c slot _ (by simpa using hc)
    · exact .refl
  case collision dt => exact ite' _ _ _ (fun _ => (adv dt).trans (Change.bus _ _ (by rfl) (by rfl) (by rfl) (by rfl)).reach) (adv dt)
  case jamMarkEnd dt => exact ite' _ _ _ (fun _ => (adv dt).trans (Change.bus _ _ (by rfl) (by rfl) (by rfl) (by rfl)).reach) (adv dt)
  case consecutiveCollisionLimit => exact (Change.judged s).reach
  case tick order =>
    exact settings_reach s _ fun c hc => by
      split
      · exact .refl
      · exact countedTick_reach c order s hc (by assumption)
  case lockWindowExpiry => exact settings_reach s _ fun c _ => windowExpired_reach c s
  case rosterExpiry station =>
    exact settings_reach s _ fun c _ => by
      split
      · exact .refl
      · refine replaceRoster_reach c _ s (fun j => ?_) (by assumption)
        rw [get_putAt]; split
        · rename_i hj; subst hj; exact expire_or c _ _
        · exact .inl rfl
  case noiseLeak => exact (Change.leak s).reach
  case noiseBucketFull => exact raiseIf_reach _ _ s (by decide) (by decide)
  case beatDue =>
    exact settings_reach s _ fun c hc => by
      unfold Publisher.beatJudged; split
      · exact (Change.beat s c s.pub.beatTimer true hc (.inl rfl)).reach
      · exact (Change.beat s c s.pub.beatTimer s.pub.beatDue hc (.inl rfl)).reach
  case publishSample entry => exact settings_reach s _ fun c hc => sampleTaken_reach c entry s hc
  case burstComplete entry => exact settings_reach s _ fun c hc => burstTaken_reach c entry s hc
  case saturationRunLimit => exact settings_reach s _ fun c _ => raiseIf_reach _ _ s (by decide) (by decide)
  case testQuietTimeout => exact (Change.testQuiet s).reach
  case exchangeComplete dt word =>
    exact ite' _ _ _ (fun _ => (adv dt).trans (exchangeCompleted_reach word _)) (adv dt)
  case failureRunLimit => exact raiseIf_reach _ _ s (by decide) (by decide)
  case exchangeRestart dt =>
    exact ite' _ _ _ (fun _ => (adv dt).trans (Change.meas _ _ (.inr (.inl (by rfl))) fun _ => by
      simp [Measurement.PortFollows, Measurement.beginExchange]).reach) (adv dt)
  case encoderAcceptance dt first second =>
    split
    · exact .refl
    · exact (adv dt).trans ((observeEncoder_reach first _).trans (sampleEncoder_reach second _))
  case stopLineAssertion dt =>
    split
    · exact .refl
    · exact (adv dt).trans (senseStop_reach true _)
  case stopLineRelease dt =>
    split
    · exact .refl
    · exact (adv dt).trans (senseStop_reach false _)
  case drvAttnAssertion dt =>
    split
    · exact .refl
    · exact (adv dt).trans (senseAttn_reach true _)
  case drvAttnRelease dt =>
    split
    · exact .refl
    · exact (adv dt).trans (senseAttn_reach false _)
  case fallingEdge dt samples =>
    split
    · exact .refl
    · exact (adv dt).trans ((Change.inputs _ _).reach.trans (sampleInputs_reach _ _))
  case pwmPeriodStart dt =>
    split
    · exact .refl
    · exact (adv dt).trans (Change.period _).reach
  case passPulseEnd dt => exact (adv dt).trans (Change.pulse _).reach
  case tagRecord sender record =>
    exact settings_reach s _ fun c hc => ite' _ _ _ (fun _ => tagTaken_reach c sender record s hc) .refl
  case noteRecord sender record =>
    exact settings_reach s _ fun c hc => ite' _ _ _ (fun h => noteTakenFrom_reach c sender record s hc h.2) .refl
  case testBlock sender block =>
    exact settings_reach s _ fun c _ => ite' _ _ _ (fun _ => (Change.testBlock s sender block).reach) .refl
  case arm => exact ite' _ _ _ (fun _ => armTaken_reach s) .refl
  case disarm => exact ite' _ _ _ (fun _ => disarmTaken_reach s) .refl
  case clear => exact ite' _ _ _ (fun _ => (Change.clear s).reach) .refl
  case query => exact ite' _ _ _ (fun _ => (Change.query s).reach) .refl
  case testStart sender count origin =>
    exact settings_reach s _ fun c _ => ite' _ _ _ (fun _ => testStartTaken_reach c sender count s) .refl
  case testStop sender =>
    exact settings_reach s _ fun c _ => ite' _ _ _ (fun _ => testStopTaken_reach c sender s) .refl
  case requestInputLevelAcceptance dt first second =>
    split
    · exact .refl
    · exact (adv dt).trans ((Change.inputs _ _).reach.trans (sampleInputs_reach second _))
  case onTimeEnd dt =>
    split
    · exact .refl
    · exact (adv dt).trans (Change.onTime _).reach

/-- A property that every change keeps is kept by every command. -/
theorem keeps_exec (P : State → Prop) (hP : ∀ s t, Change s t → P s → P t) (i : Instr) (s t : State)
    (h : exec i s = .next t) (hs : P s) : P t := by
  have hr := exec_reach i s t h
  clear h
  induction hr with
  | refl => exact hs
  | step _ hc ih => exact hP _ _ hc ih

end Sys2Proof.Machine
end

