-- ==== Sys2Proof/Laws/Flags.lean ====
section
/-! SUPPORT. The fault unit's operations, field by field. -/

namespace Sys2Proof.Machine

variable (u : FaultUnit) (rising sr nr : FlagSet) (now : Stamp) (f : Flag)

/-- Joining a note reaches the note alone. -/
@[simp] theorem FaultUnit.joinNote_keeps : (u.joinNote rising now).flags = u.flags ∧
    (u.joinNote rising now).stopPull = u.stopPull ∧ (u.joinNote rising now).faultPin = u.faultPin ∧
    (u.joinNote rising now).noteInFlight = u.noteInFlight := by
  unfold FaultUnit.joinNote; (repeat' split) <;> simp

/-- The pins follow the flags, and nothing else changes. -/
@[simp] theorem FaultUnit.drivePins_fields : (u.drivePins sr).flags = u.flags ∧
    (u.drivePins sr).faultPin = decide (u.flags = 0) ∧ (u.drivePins sr).stopPull = decide (u.flags &&& sr ≠ 0) ∧
    (u.drivePins sr).notePending = u.notePending ∧ (u.drivePins sr).newlyRaised = u.newlyRaised ∧
    (u.drivePins sr).firstRaise = u.firstRaise ∧ (u.drivePins sr).noteInFlight = u.noteInFlight ∧
    (u.drivePins sr).following = u.following ∧ (u.drivePins sr).followingStamp = u.followingStamp := by
  simp [FaultUnit.drivePins]

/-- A captured note changes the note state alone. -/
@[simp] theorem FaultUnit.noteTaken_keeps : u.noteTaken.flags = u.flags ∧ u.noteTaken.stopPull = u.stopPull ∧
    u.noteTaken.faultPin = u.faultPin ∧ u.noteTaken.notePending = u.notePending ∧
    u.noteTaken.newlyRaised = u.newlyRaised ∧ u.noteTaken.firstRaise = u.firstRaise := by
  unfold FaultUnit.noteTaken; split <;> simp

/-- A released note leaves the flags and the pins. -/
@[simp] theorem FaultUnit.noteReleased_keeps : u.noteReleased.flags = u.flags ∧
    u.noteReleased.stopPull = u.stopPull ∧ u.noteReleased.faultPin = u.faultPin := by
  unfold FaultUnit.noteReleased; split <;> simp

/-- A collided note leaves the flags, the pins and the pending mark. -/
@[simp] theorem FaultUnit.noteCollided_keeps : u.noteCollided.flags = u.flags ∧
    u.noteCollided.stopPull = u.stopPull ∧ u.noteCollided.faultPin = u.faultPin ∧
    u.noteCollided.notePending = u.notePending := by
  simp [FaultUnit.noteCollided]

/-- Membership in a union, in an intersection and in a single flag's set. -/
@[simp] theorem hasFlag_or (a b : FlagSet) : hasFlag (a ||| b) f = (hasFlag a f || hasFlag b f) := by
  simp [hasFlag]

@[simp] theorem hasFlag_and (a b : FlagSet) : hasFlag (a &&& b) f = (hasFlag a f && hasFlag b f) := by
  simp [hasFlag]

@[simp] theorem hasFlag_zero : hasFlag 0 f = false := by simp [hasFlag]

@[simp] theorem hasFlag_single (g : Flag) : hasFlag g.single f = decide (g = f) := by
  cases g <;> cases f <;> rfl

/-- What a raise does to the flags: flag `f` is set after it, and every other flag stands. -/
theorem hasFlag_raise (g : Flag) : hasFlag (u.raise sr nr now f).flags g = (hasFlag u.flags g || decide (f = g)) := by
  unfold FaultUnit.raise; split
  · by_cases h : f = g
    · subst h; simp_all
    · simp [h]
  · simp

/-- A CLEAR keeps CONFIG and TWIN (R164). -/
theorem clearKeeps_config (run : Nat) (hi lo attn : Bool) : hasFlag (clearKeeps run hi lo attn) .config = true := by
  simp [clearKeeps]

theorem clearKeeps_twin (run : Nat) (hi lo attn : Bool) : hasFlag (clearKeeps run hi lo attn) .twin = true := by
  simp [clearKeeps]

end Sys2Proof.Machine
end

