-- ==== Sys2Proof/Tests/Slice0.lean ====
section
/-! SUPPORT. Small tests: the checks of WellFormed with an ill-formed command each, the manual's own numbers, and for
every statement with hypotheses a state that meets them. -/

namespace Sys2Proof.Tests

-- Each test in turn: side by side, the threads that wait on the kernel outgrow the memory limit.
set_option Elab.async false

open Sys2Proof.Machine

/-! ## States -/

/-- The image of the worked sequence of chapter 6, station 3. -/
def image (burst : Byte) (check : List Byte) : List Byte :=
  [0x4A, 0x16, 0x03, 0x09, 0x04, 0x02, 0x04, 0x20, 0x08, 0x05, 0x02, 0x00]
    ++ [0x00, 0x00, 0x02, 0x00, 0x10, 0x00, 0x10, 0x05, 0x02, 0x40, 0x00, 0x00, 0x04] ++ [burst]
    ++ [0x00, 0x00, 0x01, 0x41, 0x01, 0x00, 0x10, 0x02, 0x00, 0x03, 0x01]
    ++ List.replicate 48 0
    ++ [0x3D, 0x01, 0x00, 0x00, 0x28, 0x01]
    ++ List.replicate 18 0
    ++ [0x10, 0x00, 0x08, 0x00, 0x02, 0x01, 0x01, 0x00, 0xF8, 0x00, 0x02, 0x01, 0x02, 0x00, 0xFE, 0x00, 0x00, 0x00]
    ++ [0x03, 0x00, 0x04, 0x00, 0x00, 0x00, 0x12, 0x00, 0xFA, 0x00, 0x00, 0x02, 0x12, 0x01, 0xF4, 0x00, 0x00, 0x02]
    ++ List.replicate 60 0
    ++ [0x4E, 0x20, 0x07, 0xD0, 0x04, 0xD1, 0x20, 0x2E, 0xE0, 0x00, 0x00, 0x00, 0x00, 0x32]
    ++ [0x01, 0x00, 0x00, 0x02, 0x08, 0x00, 0x00, 0x00, 0x05, 0x00, 0x00, 0x00, 0x08, 0x09, 0x00, 0x64]
    ++ List.replicate 19 0
    ++ check

/-- The settings that the image gives. -/
def cfg : Settings :=
  { station := 3, period := 9, tolerance := 4, alignDelay := 2, ageLimit := 4, rosterTimeout := 32, beatInterval := 8,
    escalateMark := 5, relaxMark := 2, stopAction := .hold, watchMask := 0x200, stopRoutes := 0x1000,
    noteRoutes := 0x1004,
    publish := [{ tag := 64, source := .position, interval := 4, burst := 1, startPhase := 0, enabled := true },
      { tag := 65, source := .rate, interval := 16, burst := 2, startPhase := 3, enabled := true }],
    slots := #v[⟨61, true⟩, ⟨0, false⟩, ⟨40, true⟩, ⟨0, false⟩, ⟨0, false⟩, ⟨0, false⟩, ⟨0, false⟩, ⟨0, false⟩,
      ⟨0, false⟩, ⟨0, false⟩, ⟨0, false⟩, ⟨0, false⟩],
    mixRows := [some ⟨.slot 0, .level, 2048, .both, 1⟩, some ⟨.position, .level, -2048, .both, 1⟩,
      some ⟨.rate, .level, -512, .effort, 0⟩, some ⟨.integral, .level, 1024, .effort, 0⟩,
      some ⟨.slot 2, .level, -1536, .effort, 2⟩, some ⟨.slot 2, .slope, -3072, .effort, 2⟩, none, none, none, none,
      none, none, none, none, none, none],
    effortLimit := 20000, integralLimit := 2000, integralShift := 4, lowLimit := -12000, highLimit := 12000,
    encoderCentre := 0, saturationCount := 50,
    inputs := #v[⟨some .arm, 0x208, 0, 0⟩, ⟨some .testStart, 8, 9, 100⟩, ⟨none, 0, 0, 0⟩, ⟨none, 0, 0, 0⟩] }

/-- The part before its image. -/
def loading : State :=
  { State.reset with resetLow := false, loader := { Loader.reset with stage := .attempting } }

/-- The part in LISTEN. -/
def listening : State :=
  { State.reset with
    resetLow := false, settings := some cfg, drive := { DriveUnit.reset with state := .disarmed }
    loader := { Loader.reset with phase := .listen, stage := .finished } }

/-- The part in RUN, LOCKED at 5 µs past a multiple, with the wheel in a pass. -/
def running : State :=
  { listening with
    time := { TimeUnit.reset with clock := 1029, state := .locked, lastTick := 1024 }
    bus := { BusController.reset with tx := .ready, position := 1, wheel := .pass 0 }
    loader := { listening.loader with phase := .run } }

/-- The part in RUN with a drive state. -/
def driven (d : DriveState) : State := { running with drive := { running.drive with state := d } }

/-- A data frame of station 9 with nothing in it. -/
def beat : FrameCopy :=
  { cls := .routine, station := 9, kind := .data, period := 9, sequence := 4, stamp := 1000, note := none,
    requests := [], status := none, tags := [], test := none }

/-- What is heard of a frame. -/
def heard (f : FrameCopy) : Heard := { bytes := f.bytes, stray := false }

/-- The frame as another station reads it. -/
def beatHeard : HeardFrame :=
  { cls := 2, station := 9, kind := .data, period := 9, sequence := 4, length := 0, stamp := 1000, payload := [] }

/-- The part in RUN that sends a frame. -/
def sending : State :=
  { running with bus := { running.bus with tx := .sending, copy := some { beat with station := 3 }, wheel := .stopped
                                           driving := .frame, classInForce := some .routine } }

/-- A station's record in the roster. -/
def withRecord (s : State) (k : Station) (r : StationRecord) : State := { s with rx := s.rx.setRecord k r }

/-- A present record. -/
def present (lastHeard : Stamp) : StationRecord := { StationRecord.reset with present := true, lastHeard := lastHeard }

/-- The state that a command leaves. -/
def ran (i : Instr) (s : State) : State :=
  match exec i s with
  | .next t => t
  | .fault _ | .refused _ => s

/-! ## WellFormed refuses -/

theorem test_illFormed_attemptComplete : Instr.wellFormed (.attemptComplete [0]) = false := by decide
theorem test_illFormed_clockStretchTimeout :
    Instr.wellFormed (.clockStretchTimeout (.reading (List.replicate 257 0))) = false ∧
    Instr.wellFormed (.clockStretchTimeout (.freeing 9)) = false := by decide +kernel
theorem test_illFormed_slotBoundary : Instr.wellFormed (.slotBoundary 0 96) = false := by decide
theorem test_illFormed_fallingEdge : Instr.wellFormed (.fallingEdge 0 ⟨0b1010, 0b0101⟩) = false := by decide
theorem test_illFormed_tagRecord :
    Instr.wellFormed (.tagRecord 1 { tag := 0, spacing := 1, newest := 0, values := [1, 2, 3] }) = false := by decide
theorem test_illFormed_testBlock :
    Instr.wellFormed (.testBlock 1 { index := 1, count := 0, last := false, pattern := [] }) = false := by decide
theorem test_wellFormed_commands :
    Instr.wellFormed (.slotBoundary 0 95) = true ∧ Instr.wellFormed (.fallingEdge 0 ⟨0b0111, 0b0101⟩) = true ∧
    Instr.wellFormed (.tagRecord 1 { tag := 0, spacing := 1, newest := 0, values := [1, 2] }) = true ∧
    Instr.wellFormed (.testBlock 1 { index := 1, count := 0, last := false, pattern := pattern 1 }) = true := by decide
theorem test_noWordSpellsACommand : decodeTableWord 16 0 = none ∧ (running.withFetchWord 16 0) = running := by
  exact ⟨rfl, rfl⟩

/-! ## The manual's own numbers -/

theorem test_crc : crc16 [0x31, 0x32, 0x33, 0x34, 0x35, 0x36, 0x37, 0x38, 0x39] = 0x29B1 ∧ crc16 [] = 0xFFFF := by
  decide +kernel
theorem test_image_accepted : judgeImage (image 1 [0x5D, 0x38]) = some cfg := by decide +kernel
theorem test_image_burst3_rejected : judgeImage (image 3 [0x2E, 0x79]) = none := by decide +kernel
theorem test_pattern_bytes : (pattern 1).take 3 = [91, 128, 165] ∧ (pattern 1).getLast? = some 214 ∧
    (pattern 4).getLast? = some 217 := by decide +kernel
theorem test_duty : dutyOf 541 = 66 ∧ dutyOf 59 = 7 ∧ dutyOf (-32767) = 4000 := by decide
theorem test_rate_words : rateCheckRight 0x87000990 = true ∧ rateCheckRight 0x88FED45A = true ∧
    (rateValue 0x88FED45A).toInt = -300 ∧ rateCount 0x88FED45A = 8 ∧ rateReady 0x88FED45A = true := by decide
theorem test_jump_multiples : crossed cfg 1200121 7341023 = 11994 := by decide
theorem test_selection :
    selectRing [⟨5858 * 512, -314⟩, ⟨5860 * 512, -310⟩, ⟨5865 * 512, -280⟩] (5864 * 512) = .bridged (-286) ∧
    selectRing [⟨5858 * 512, -314⟩, ⟨5860 * 512, -310⟩] (5862 * 512) = .held (-310) ∧
    selectRing [⟨5858 * 512, -314⟩, ⟨5860 * 512, -310⟩] (5860 * 512) = .exact (-310) := by decide +kernel

/-- Station 3 of the worked sequence of chapter 6 as the mix takes a tick. -/
def tilt (pos : BitVec 32) (rate : Half) (integral : Int) (demand : Stamp) (slot2 : Slot) : State :=
  { driven .active with
    meas := { Measurement.reset with snapCount := pos, snapRate := rate }
    mix := { MixUnit.reset with integral := integral, mask := 0 }
    listen := putAt (putAt State.reset.listen 0
      { Slot.reset with state := .live, ring := [⟨demand - 512, 900⟩, ⟨demand, 900⟩] }) 2 slot2 }

theorem test_mix_tick_5864 :
    let t := mixTick cfg 3002368 (tilt 884 12 51200 3001344
      { Slot.reset with state := .live, ring := [⟨5858 * 512, -314⟩, ⟨5860 * 512, -310⟩] })
    t.mix.effort = 541 ∧ t.mix.integral = 53248 ∧ t.mix.mask = 0 ∧ t.fault.flags = 0 := by decide +kernel
theorem test_mix_tick_5865 :
    let t := mixTick cfg 3002880 (tilt 887 9 53248 3001856 { Slot.reset with state := .aged })
    t.mix.effort = 74 ∧ t.mix.integral = 54912 ∧ t.mix.mask = 2 ∧ hasFlag t.fault.flags .feedLost = true := by
  decide +kernel
theorem test_mix_tick_5866 :
    (mixTick cfg 3003392 (tilt 889 5 54912 3002368 { Slot.reset with state := .live
                                                                     ring := [⟨5860 * 512, -310⟩, ⟨5865 * 512, -280⟩] }
      )).mix.effort = 484 := by decide +kernel

/-! ## Commands, one step each -/

theorem test_reset : (ran .reset (driven .active)).drive.state = .off ∧ (ran .reset running).test.index = 1 := by decide
theorem test_resetRelease : (ran (.resetRelease 9) State.reset).loader.stage = .attempting ∧
    (ran (.resetRelease 10) State.reset).loader.stage = .waiting := by decide
theorem test_attemptComplete : (ran (.attemptComplete (image 1 [0x5D, 0x38])) loading).loader.phase = .listen := by
  decide +kernel
theorem test_attemptFailure : (ran (.attemptFailure .sdaStuck) loading).loader.stage = .waiting := by decide
theorem test_clockStretch :
    (ran (.clockStretchTimeout (.reading [1])) loading).loader.buffer = [1] ∧
    (ran (.clockStretchTimeout (.reading [1])) loading).loader.sent = [.start, .address 0x50 .write, .byte 0,
      .repeatedStart, .address 0x50 .read, .read true, .release] ∧
    (ran (.clockStretchTimeout (.freeing 3)) (ran (.resetRelease 4) State.reset)).loader.sent =
      [.clock, .clock, .clock, .release] ∧
    ran (.clockStretchTimeout (.freeing 0)) loading = loading := by decide
theorem test_transaction :
    let sent := (ran (.attemptComplete (image 1 [0x5D, 0x38])) (ran (.resetRelease 2) State.reset)).loader.sent
    sent.length = 264 ∧ sent.take 3 = [.clock, .clock, .start] ∧ sent.drop 261 = [.read true, .read false, .stop] ∧
    (ran (.resetRelease 10) State.reset).loader.sent = List.replicate 9 .clock ++ [.stop] := by decide +kernel
theorem test_retryWaitEnd :
    let waiting (n : Nat) : State := { loading with loader := { loading.loader with stage := .waiting, attempts := n } }
    (ran (.retryWaitEnd 0) (waiting 2)).loader.attempts = 3 ∧ (ran (.retryWaitEnd 0) (waiting 3)).loader.phase = .off ∧
    (ran (.retryWaitEnd 0) (waiting 3)).fault.faultPin = false := by decide
theorem test_quietLimit : (ran .quietLimit listening).loader.phase = .run ∧
    (ran .quietLimit listening).bus.position = 3 ∧ (ran .quietLimit listening).time.state = .alone := by decide
theorem test_lineBusy : (ran (.lineBusy 10) running).rx.arrival = 1041 ∧
    (ran (.lineBusy 10) running).bus.wheel = .stopped := by decide
theorem test_gapEnd :
    let t := ran (.gapEnd 2) { running with bus := { running.bus with wheel := .gap } }
    t.bus.passTickIndex = 2 ∧ t.bus.position = 1 ∧ t.bus.wheel = .pass 0 := by decide
theorem test_passComplete :
    (ran (.passComplete 48) { running with bus := { running.bus with tx := .backoff, quietWheels := 1 } }).bus.tx =
      .ready := by decide
theorem test_slotBoundary :
    let t := ran (.slotBoundary 1 65) { running with pub := { running.pub with beatDue := true } }
    t.bus.tx = .sending ∧ t.bus.sequence = 1 ∧ t.pub.beatDue = false := by decide +kernel
theorem test_collision_jam : (ran (.collision 1) sending).bus.driving = .jam ∧
    (ran (.jamMarkEnd 1) (ran (.collision 1) sending)).bus.driving = .released := by decide
theorem test_collisionLimit :
    let t := ran .consecutiveCollisionLimit { running with bus := { running.bus with consecutive := 4 } }
    t.bus.tx = .backoff ∧ hasFlag t.fault.flags .contention = true := by decide
theorem test_frameEnd_adoption :
    let t := ran (.frameEnd 12 (heard beat) .afterStamp .windowExpiryMix) listening
    t.time.clock = 1012 ∧ t.time.state = .locked ∧ (t.rx.recordOf 9).lastHeard = 1002 := by decide +kernel
theorem test_frameEnd_corrupted :
    (ran (.frameEnd 12 { bytes := [1], stray := false } .afterStamp .windowExpiryMix) running).rx.corrupted = 1 := by
  decide +kernel
theorem test_tick : (ran (.tick .windowExpiryMix) running).time.clock = 1536 ∧
    (ran (.tick .windowExpiryMix) running).meas.exchange = .exchanging ∧
    (ran (.tick .windowExpiryMix) running).pub.beatTimer = 1 := by decide +kernel
theorem test_lockWindowExpiry :
    (ran .lockWindowExpiry (withRecord { running with time := { running.time with lockTimer := 16 } } 9
      (present 0))).time.state = .adrift := by decide +kernel
theorem test_rosterExpiry :
    let late : State := { running with time := { running.time with clock := 16385 } }
    (ran (.rosterExpiry 9) (withRecord late 9 (present 0))).time.state = .alone ∧
    ((ran (.rosterExpiry 9) (withRecord late 9 (present 1))).rx.recordOf 9).present = true := by decide +kernel
theorem test_noiseLeak_bucket :
    (ran .noiseLeak { running with rx := { running.rx with leakCount := 4, noiseBucket := 16 } }).rx.noiseBucket = 15 ∧
    hasFlag (ran .noiseBucketFull { running with rx := { running.rx with noiseBucket := 16 } }).fault.flags
      .linkNoise = true := by decide
theorem test_beatDue : (ran .beatDue { running with pub := { running.pub with beatTimer := 8 } }).pub.beatDue = true := by
  decide
theorem test_publishSample :
    let p : Publisher := { running.pub with entries := putAt running.pub.entries 0 { acc := 4, gather := [] } }
    ((ran (.publishSample 0) { running with pub := p }).pub.outbox.map (·.tag)) = [64] := by decide +kernel
theorem test_burstComplete :
    let p : Publisher := { running.pub with
      entries := putAt running.pub.entries 1 { acc := 0, gather := [⟨0, 5⟩, ⟨1024, 6⟩] } }
    ((ran (.burstComplete 1) { running with pub := p }).pub.outbox.map (·.spacing)) = [2] := by decide +kernel
theorem test_limits :
    hasFlag (ran .saturationRunLimit { running with mix := { running.mix with satRun := 50 } }).fault.flags
      .saturation = true ∧
    hasFlag (ran .failureRunLimit { running with meas := { running.meas with failureRun := 3 } }).fault.flags
      .sensor = true := by decide
theorem test_testQuietTimeout :
    (ran .testQuietTimeout { running with test := { TestUnit.reset with state := .checking, quiet := 32 } }).test.errors
      = 1 := by decide
theorem test_exchange :
    let busy : State := { running with meas := { running.meas with exchange := .exchanging, failureRun := 2 } }
    (ran (.exchangeComplete 20 0x88FED45A) busy).meas.lastRate = -300 ∧
    (ran (.exchangeComplete 20 0x88FED45A) busy).meas.failureRun = 0 ∧
    hasFlag (ran (.exchangeComplete 20 0x08FED4DA) busy).fault.flags .sensor = true := by decide
theorem test_exchangeRestart :
    let t := ran (.exchangeRestart 1) { running with meas := { running.meas with exchange := .restarting } }
    t.meas.rateCs = false ∧ t.meas.rateSclk = .running ∧ (measureTick t).meas.rateCs = true ∧
    (measureTick t).meas.rateSclk = .low := by decide
theorem test_encoder :
    let at' (a b : Bool) : State := { running with meas := { running.meas with
      encA := { prev := some a, level := some a }, encB := { prev := some b, level := some b } } }
    (ran (.encoderAcceptance 0 ⟨true, false⟩ ⟨true, false⟩) (at' false false)).meas.count = 1 ∧
    (ran (.encoderAcceptance 0 ⟨false, true⟩ ⟨false, true⟩) (at' false false)).meas.count = -1 ∧
    hasFlag (ran (.encoderAcceptance 0 ⟨true, true⟩ ⟨true, true⟩) (at' false false)).fault.flags .encoder = true := by
  decide
theorem test_encoder_spike :
    let s : State := { running with meas := { running.meas with
      encA := { prev := some true, level := some true }, encB := { prev := some true, level := some false } } }
    let t := ran (.encoderAcceptance 0 ⟨false, true⟩ ⟨false, true⟩) s
    t.meas.count = 0 ∧ hasFlag t.fault.flags .encoder = true ∧ t.meas.encA.level = some false ∧
    (ran (.encoderAcceptance 0 ⟨true, false⟩ ⟨false, true⟩) s).meas.encA.level = some true := by decide
theorem test_stopLine : (ran (.stopLineAssertion 2) (driven .active)).drive.state = .hold ∧
    (ran (.stopLineRelease 2) { driven .coast with drive := { (driven .coast).drive with
      stop := { prev := some true, asserted := true } } }).drive.state = .disarmed := by decide
theorem test_drvAttn : (ran (.drvAttnAssertion 2) (driven .hold)).drive.state = .coast ∧
    (ran (.drvAttnAssertion 2) (driven .hold)).fault.stopPull = true ∧
    (ran (.drvAttnRelease 2) (ran (.drvAttnAssertion 2) (driven .hold))).drive.attn.asserted = false := by decide
theorem test_fallingEdge :
    let up : State := { running with req := { running.req with
      inputs := Vector.replicate 4 { prev := some true, level := some true } } }
    ((ran (.fallingEdge 500 ⟨0b1000, 0b1000⟩) up).req.list.map (·.kind)) = [.arm, .testStart] ∧
    ((ran (.fallingEdge 500 ⟨0b0101, 0b1101⟩) up).req.list.map (·.mask)) = [0x208] ∧
    ((ran (.fallingEdge 500 ⟨0b0101, 0b1101⟩) up).req.inputs.get 3) = { prev := some true, level := some true } ∧
    ((ran (.fallingEdge 500 ⟨0b1101, 0b0101⟩) up).req.inputs.get 3) = { prev := some false, level := some true } := by
  decide +kernel
theorem test_levelAcceptance :
    let t := ran (.requestInputLevelAcceptance 500 0b0110 0b0100) running
    (t.req.inputs.get 2).level = some true ∧ (t.req.inputs.get 1) = { prev := some false, level := none } ∧
    t.req.list = [] := by decide +kernel
theorem test_pwm :
    let s : State := { driven .active with drive := { (driven .active).drive with
      pendingSetting := some ⟨541, .active⟩, drvEn := true } }
    (ran (.pwmPeriodStart 0) s).drive.duty = 66 ∧ (ran (.pwmPeriodStart 0) s).drive.drvPwm = true ∧
    (ran (.onTimeEnd 0) (ran (.pwmPeriodStart 0) s)).drive.drvPwm = false := by decide
theorem test_passPulseEnd :
    (ran (.passPulseEnd 2) { running with test := { TestUnit.reset with state := .checking, pulse := .low, owed := 2
                                                                        pass := false } }).test.owed = 1 := by decide
theorem test_tagRecord :
    let r : TagRecord := { tag := 40, spacing := 1, newest := 1024, values := [7, 8] }
    (((ran (.tagRecord 9 r) running).listen.get 2).ring.map (·.stamp)) = [512, 1024] ∧
    ((ran (.tagRecord 8 r) (ran (.tagRecord 9 r) running)).listen.get 2).state = .clash := by decide +kernel
theorem test_noteRecord :
    hasFlag (ran (.noteRecord 9 ⟨1, 1, 0⟩) running).fault.flags .remote = true ∧
    hasFlag (ran (.noteRecord 8 ⟨1, 1, 0⟩) running).fault.flags .remote = false := by decide +kernel
theorem test_testBlock :
    let s : State := { running with test := { TestUnit.reset with state := .checking, sender := 9 } }
    (ran (.testBlock 9 ⟨4, 0, false, pattern 4⟩) s).test.errors = 3 ∧
    (ran (.testBlock 9 ⟨1, 0, true, pattern 1⟩) s).test.state = .done := by decide +kernel
theorem test_arm_disarm : (ran .arm running).drive.state = .active ∧ (ran .arm (driven .coast)).req.refused = 1 ∧
    (ran .disarm (driven .hold)).drive.state = .disarmed := by decide
theorem test_clear_query :
    (ran .clear { running with fault := { FaultUnit.reset with flags := 0x203, faultPin := false } }).fault.flags = 3 ∧
    (ran .query running).req.statusPending = true := by decide
theorem test_testStart_stop : (ran (.testStart 3 0 9) running).test.state = .sending ∧
    (ran (.testStart 9 0 9) running).test.state = .checking ∧
    (ran (.testStop 3) (ran (.testStart 3 0 9) running)).test.state = .done := by decide

/-! ## The hypotheses of the statements are met -/

theorem test_met_queue : (∃ (c : Instr) (rest : List Instr) (s : State), s.pending = c :: rest) ∧
    State.reset.pending = [] :=
  ⟨⟨.arm, [], { State.reset with pending := [.arm] }, rfl⟩, rfl⟩
theorem test_met_acceptedImage : ∃ img c, judgeImage img = some c := ⟨_, _, test_image_accepted⟩
theorem test_met_imageInRange : let img := image 1 [0x5D, 0x38]
    imageHalf img 0 = 0x4A16 ∧ crc16 (img.take 254) = imageHalf img 254 ∧ ImageInRange img := by decide +kernel
theorem test_met_imageOutOfRange : ¬ImageInRange (image 3 [0x2E, 0x79]) := by decide +kernel
theorem test_met_consistent : cfg.IsConsistent ∧ ¬{ cfg with relaxMark := 5 }.IsConsistent := by
  refine ⟨⟨by decide +kernel, by decide +kernel, by decide +kernel, fun row k h hs => ?_, by decide +kernel,
    by decide +kernel⟩, fun h => absurd h.2.2.2.2.2 (by decide)⟩
  simp only [cfg, List.mem_cons, Option.some.injEq, reduceCtorEq, List.not_mem_nil, or_false] at h
  rcases h with rfl | rfl | rfl | rfl | rfl | rfl <;> cases hs <;> decide
theorem test_met_wheel : running.settings = some cfg ∧ listening.settings = some cfg := ⟨rfl, rfl⟩
theorem test_met_slotBoundary : running.settings = some cfg ∧ running.bus.wheel = .pass 0 ∧ 0 ≤ 95 ∧ 95 < 96 ∧
    running.line.busy = false ∧ running.bus.tx = .ready := by decide +kernel
theorem test_slotBoundary_nothing :
    let busy : State := { running with line := { busy := true, abandoned := false } }
    let due : Publisher := { running.pub with beatDue := true }
    let late : State := { running with bus := { running.bus with wheel := .pass 66 }, pub := due }
    ran (.slotBoundary 1 65) { busy with pub := due } = { busy with pub := due }.advance 1 ∧
    ran (.slotBoundary 1 65) late = late.advance 1 ∧
    ran (.slotBoundary 1 65) listening = listening.advance 1 ∧ loading.settings = none := by decide +kernel
theorem test_met_frameCopy : running.req.OnePerInput ∧ (running.frameCopy cfg .routine).kind = .data ∧
    ({ running with test := { running.test with due := true } }.frameCopy cfg .routine).kind = .test := by
  decide +kernel
theorem test_met_status : running.drive.state ≠ .off ∧ running.time.state ≠ .stopped ∧ listening.time.state = .stopped ∧
    State.reset.mix.history = none := by decide
theorem test_met_collidedEnd : let s := ran (.collision 1) sending
    s.settings = some cfg ∧ s.bus.tx = .sending ∧ s.bus.copy = some { beat with station := 3 } ∧
    s.bus.collided = true := by decide +kernel
theorem test_collided_limit :
    let s : State := { sending with bus := { sending.bus with collided := true, consecutive := 3 } }
    let t := ran (.frameEnd 1 (heard beat) .afterStamp .windowExpiryMix) s
    t.bus.tx = .backoff ∧ t.bus.consecutive = 0 ∧ t.bus.collisionTotal = 1 ∧
    hasFlag t.fault.flags .contention = true := by decide +kernel
theorem test_met_cleanEnd : sending.settings = some cfg ∧ sending.bus.tx = .sending ∧
    sending.bus.copy = some { beat with station := 3 } ∧ sending.bus.collided = false := by decide +kernel
theorem test_met_tick : running.settings = some cfg ∧ running.time.state ≠ .stopped ∧ 7 ≤ cfg.period ∧ cfg.period ≤ 11 ∧
    listening.time.state = .stopped ∧ State.reset.settings = none := by decide +kernel
theorem test_met_tick_sensor : { running with meas := { running.meas with
      exchange := .exchanging, failureRun := 2 } }.meas.exchange ≠ .idle ∧ 3 ≤ 2 + 1 := by decide
theorem test_met_tick_mix : running.time.state = .locked ∧ (driven .active).drive.state = .active ∧
    { running with time := { running.time with state := .alone } }.time.state ≠ .locked := by decide +kernel
theorem test_tick_mix_locked :
    let demand : Slot := { Slot.reset with state := .live, ring := [⟨3000832, 900⟩, ⟨3001344, 900⟩] }
    let feed (st : SlotState) (ring : List Sample) : State := { driven .active with
      time := { running.time with clock := 3002368 }
      meas := { Measurement.reset with count := 884, lastRate := 12 }
      mix := { MixUnit.reset with integral := 51200, mask := 0 }
      listen := putAt (putAt State.reset.listen 0 demand) 2 { Slot.reset with state := st, ring := ring } }
    let fresh := tickWork cfg 3002368 .windowExpiryMix (feed .live [⟨5858 * 512, -314⟩, ⟨5860 * 512, -310⟩])
    let lost := tickWork cfg 3002368 .windowExpiryMix (feed .empty [])
    fresh.mix.effort = 541 ∧ fresh.mix.mask = 0 ∧ fresh.fault.flags = 0 ∧ lost.mix.mask = 2 ∧
    hasFlag lost.fault.flags .feedLost = true := by decide +kernel
theorem test_met_groups :
    let s : Slot := { Slot.reset with state := .live, ring := [⟨4, 1⟩, ⟨8, 9⟩] }
    Slot.reset.state ≠ .live ∧ s.ring.head? = some ⟨4, 1⟩ ∧ s.ring.getLast? = some ⟨8, 9⟩ ∧ later 9 8 = true ∧
    later 3 8 = false ∧ later 4 3 = true ∧ (∀ y ∈ s.ring, y.stamp ≠ 9 ∧ y.stamp ≠ 3) ∧
    s.select 9 = .held 9 ∧ s.select 3 = .held 1 ∧ s.select 4 = .exact 1 ∧ s.select 8 = .exact 9 ∧
    s.select 5 = .bridged 3 ∧ s.select 7 = .bridged 7 := by decide +kernel
theorem test_tick_note :
    let s : State := { driven .active with
      settings := some { cfg with noteRoutes := 0x110 }
      time := { running.time with lockTimer := 15 }
      meas := { running.meas with exchange := .exchanging, failureRun := 2 } }
    let t := tickWork { cfg with noteRoutes := 0x110 } 1024 .windowExpiryMix (withRecord s 9 (present 1029))
    t.fault.flags = 0x110 ∧ t.fault.newlyRaised = 0x110 ∧ t.fault.firstRaise = 1029 ∧ t.fault.notePending = true ∧
    t.fault.faultPin = false := by decide +kernel
theorem test_met_tick_publish : cfg.entryAt 0 = some ⟨64, .position, 4, 1, 0, true⟩ ∧ (⟨64, .position, 4, 1, 0, true⟩ :
    PublishEntry).step = 4 ∧ cfg.entryAt 2 = none ∧
    cfg.entryAt 1 = some ⟨65, .rate, 16, 2, 3, true⟩ ∧ (∀ e ∈ cfg.publish, 1 ≤ e.burst) := by decide +kernel
theorem test_tick_publishes :
    let p : Publisher := { running.pub with entries := putAt running.pub.entries 1 { acc := 4, gather := [⟨512, 5⟩] } }
    let t := tickWork cfg 1536 .windowExpiryMix { running with pub := p }
    (t.pub.outbox.map fun e => (e.tag, e.values.length, e.spacing)) = [(64, 1, 0), (65, 2, 2)] ∧
    (t.pub.entries.get 1) = { acc := 0, gather := [] } := by decide +kernel
theorem test_met_tick_lock :
    let s := withRecord { running with time := { running.time with lockTimer := 15 } } 9 (present 1029)
    othersPresent 3 s.rx.roster = true ∧ s.time.state = .locked ∧
    (ran (.tick .mixExpiryWindow) s).time.state = .adrift := by decide +kernel
theorem test_met_outbox :
    let e : OutboxEntry := { tag := 64, values := [1], newest := 0, spacing := 0, inFlight := true, revised := false }
    (∀ x ∈ running.pub.outbox, x.tag ≠ 64) ∧ (∃ x ∈ [e], x.tag = 64) ∧ [e][0]? = some e := by decide
theorem test_met_corrupted : running.bus.tx ≠ .sending ∧ running.loader.phase = .run ∧ running.line.abandoned = false ∧
    listening.loader.phase = .listen ∧ readFrame { bytes := beat.bytes, stray := true } = none := by decide +kernel
theorem test_met_unjudged :
    let marked : State := { running with line := { busy := true, abandoned := true } }
    let t := ran (.frameEnd 3 (heard beat) .afterStamp .windowExpiryMix) marked
    loading.settings = none ∧ loading.loader.phase = .load ∧ marked.line.abandoned = true ∧ t.bus.wheel = .gap ∧
    t.rx = marked.rx ∧ t.fault = marked.fault ∧ t.time.clock = 1032 := by decide +kernel
theorem test_met_twin_foreign :
    (readFrame (heard { beat with station := 3 })).map (·.station) = some cfg.station ∧
    (readFrame (heard { beat with period := 8 })).map (·.period.toNat) = some 8 ∧ (9 : Station) ≠ cfg.station := by
  decide +kernel
theorem test_met_adoption : listening.settings = some cfg ∧ listening.loader.phase = .listen ∧
    listening.time.state = .stopped ∧ listening.bus.tx = .silent ∧ listening.line.abandoned = false ∧
    readFrame (heard beat) = some beatHeard ∧ beatHeard.station ≠ cfg.station ∧
    beatHeard.period.toNat = cfg.period := by decide +kernel
theorem test_met_matching_ahead :
    let s : State := { running with rx := { running.rx with arrival := 1 } }
    0 < (beatHeard.stamp + 2 - s.rx.arrival).toInt ∧ 1 ≤ s.jumpCount cfg 2030 ∧ s.jumpCount cfg 1535 = 0 := by
  decide +kernel
theorem test_met_matching_behind :
    let s : State := { running with rx := { running.rx with arrival := 1002 } }
    let late : State := { running with rx := { running.rx with arrival := 1029 } }
    (beatHeard.stamp + 2 - s.rx.arrival).toInt = 0 ∧ (beatHeard.stamp + 2 - late.rx.arrival).toInt = -27 := by
  decide +kernel
theorem test_met_tagRecord : (9 : Station) ≠ cfg.station ∧
    ({ tag := 61, spacing := 1, newest := 0, values := [1, 2, 3, 4] } : TagRecord).usable = true ∧
    cfg.slotOf 61 = some 0 ∧ cfg.slotOf 62 = none ∧ ([7, 8] : List Half)[1]? = some 8 := by decide +kernel
theorem test_met_sample :
    let slot : Slot := { Slot.reset with publisher := some 9, ring := [⟨100, 1⟩] }
    slot.takeSample 200 9 ⟨201, 2⟩ = { slot with future := 1 } ∧
    slot.takeSample 200 9 ⟨200, 2⟩ = { slot with ring := [⟨100, 1⟩, ⟨200, 2⟩] } ∧
    slot.takeSample 200 9 ⟨101, 2⟩ = { slot with ring := [⟨100, 1⟩, ⟨101, 2⟩] } ∧
    slot.takeSample 200 9 ⟨100, 2⟩ = { slot with late := 1 } ∧
    slot.takeSample 200 9 ⟨200 + 2 ^ 31, 2⟩ = { slot with late := 1 } ∧
    Slot.reset.takeSample 200 9 ⟨200 + 2 ^ 31, 2⟩ =
      { Slot.reset with publisher := some 9, ring := [⟨200 + 2 ^ 31, 2⟩] } := by decide +kernel
theorem test_met_request :
    let ask (mask : BitVec 32) (origin : Byte) : RequestRecord :=
      { kind := .arm, origin := origin, mask := mask, sender := 0, count := 0 }
    (ask 8 9).mask.getLsbD cfg.station.toNat = true ∧ (ask 8 9).origin.toNat = (9 : Station).toNat ∧
    (actOn cfg 9 running (ask 8 9)).drive.state = .active ∧ actOn cfg 9 running (ask 4 9) = running ∧
    actOn cfg 9 running (ask 8 10) = running ∧ actOn cfg 9 listening (ask 8 9) = listening := by decide +kernel
theorem test_met_bridge : later 1 0 = true ∧ later 2 1 = true ∧ later (2 ^ 31 - 1) 0 = true ∧
    later (2 ^ 31) 0 = false := by decide
theorem test_met_effort : 1 ≤ cfg.effortLimit ∧ clampEngaged cfg 20000 = false ∧ (cfg.effortLimit : Int) < 20001 ∧
    (-20001 : Int) < -cfg.effortLimit ∧ (2 : Int) ^ 34 ≤ 2 ^ 34 := by decide +kernel
theorem test_met_clear : running.loader.phase = .run ∧ listening.loader.phase ≠ .run := by decide
theorem test_met_sentFrame : beat.payload.length ≤ 64 ∧
    { beat with tags := [⟨1, 1, 0, [1, 2, 3, 4]⟩, ⟨2, 1, 0, [1, 2, 3, 4]⟩, ⟨3, 1, 0, [1, 2, 3, 4]⟩,
                         ⟨4, 0, 0, [1, 2]⟩] }.payload.length = 64 := by decide +kernel
theorem test_frame_corrupted :
    let d : List Byte := [0x92, 9, 4, 0, 0, 0, 3, 0xE8]
    let whole (b : List Byte) : Heard := { bytes := b ++ halfBytes (crc16 b), stray := false }
    (readFrame (whole d)).isSome = true ∧ readFrame (whole (0xD2 :: d.tail)) = none ∧
    readFrame (whole ((d.set 3 65) ++ List.replicate 65 0)) = none ∧
    (readFrame (whole ((d.set 3 64) ++ List.replicate 64 0))).isSome = true ∧
    readFrame { bytes := d ++ [0, 0], stray := false } = none ∧ readFrame (whole (d ++ [0])) = none ∧
    readFrame (whole (d.set 3 1)) = none ∧ readFrame { bytes := d, stray := false } = none := by decide +kernel
theorem test_walk_steps_over :
    let note : List Byte := [2, 10, 0, 1, 0, 1, 0, 0, 0, 0]
    walk ([7, 3, 0] ++ note) = [.note ⟨1, 1, 0⟩] ∧ walk ([2, 4, 0, 0] ++ note) = [.note ⟨1, 1, 0⟩] ∧
    walk ([3, 11, 5, 9, 0, 0, 0, 8, 32, 0, 0] ++ note) = [.note ⟨1, 1, 0⟩] ∧
    walk (note ++ [7, 1] ++ note) = [.note ⟨1, 1, 0⟩] ∧ walk (note ++ [7, 3]) = [.note ⟨1, 1, 0⟩] ∧
    walk (note ++ [7]) = [.note ⟨1, 1, 0⟩] ∧
    (readTestBlock ([0, 1, 0, 0, 2] ++ pattern 1)).map (·.last) = some true ∧
    readTestBlock ([0, 1, 0, 0, 2, 9] ++ pattern 1) = none := by decide +kernel
theorem test_met_sentPayload : beat.test = none ∧ (∀ r ∈ beat.tags, r.values.length = 1) ∧
    (pattern 65535).length = 32 := by decide +kernel
theorem test_met_rings :
    let slot : Slot := { Slot.reset with publisher := some 9, state := .live, ring := [⟨512, 1⟩, ⟨1024, 2⟩] }
    let s : State := { running with listen := putAt running.listen 0 slot }
    slot.Legal ∧ slot.Rising ∧ (∀ x ∈ slot.ring, later x.stamp (s.futureBound cfg) = false) ∧
    (∀ x ∈ slot.ring, later x.stamp ((ran (.tick .windowExpiryMix) s).futureBound cfg) = false) ∧
    (∀ k, (s.listen.get k).Rising) := by decide +kernel
theorem test_met_publisherInRange : running.PublisherInRange := by
  show _ ≤ cfg.beatInterval ∧ _
  refine ⟨by decide +kernel, fun i e h => ?_⟩
  fin_cases i <;> first | (cases h; decide +kernel) | cases h
theorem test_met_invariants_step : step { State.reset with pending := [.reset] } = .next State.reset := rfl
theorem test_met_invariants_reset : State.reset.PhasesAgree ∧ State.reset.FaultPinsFollow ∧
    State.reset.fault.NoteStateLegal ∧ State.reset.TwinSilences ∧ State.reset.drive.OutputsFollow ∧
    State.reset.IntegralClearedWhenIdle ∧ State.reset.CountsInRange ∧ State.reset.req.OnePerInput ∧
    State.reset.meas.PortFollows := by
  refine ⟨?_, ?_, ?_, ?_, ?_, ?_, ?_, ?_, ?_⟩ <;> decide +kernel
theorem test_met_invariants_running : running.PhasesAgree ∧ running.FaultPinsFollow ∧ running.fault.NoteStateLegal ∧
    running.TwinSilences ∧ running.drive.OutputsFollow ∧ running.CountsInRange ∧ running.SlotsLegal ∧
    running.req.OnePerInput ∧ cfg.InRange ∧ running.meas.PortFollows := by
  refine ⟨?_, ?_, ?_, ?_, ?_, ?_, ?_, ?_, ?_, ?_⟩ <;> decide +kernel
theorem test_met_ownRecord : running.OwnRecordUntouched := by show _ = _; decide +kernel
theorem test_met_effortBounded : running.EffortBounded := by
  refine ⟨⟨by decide +kernel, by decide +kernel, by decide +kernel, fun x h => ?_⟩, by decide +kernel⟩
  cases h
theorem test_met_settings_outbox : running.SettingsLegal ∧ running.OutboxLegal := by
  refine ⟨fun c h => ?_, by decide +kernel, fun e h => by cases h⟩
  obtain rfl : cfg = c := Option.some.inj h
  exact ⟨by decide +kernel, by decide +kernel⟩

end Sys2Proof.Tests
end

/-! The outbox takes a request (R62–R64, R69, R70): one equation of
`Publisher.takeRequest` for a tag without an entry and one for a tag that has one, and the obligation from these. -/

namespace Sys2Proof.Machine

/-- R63, R64: the replaced entry is marked revised if it is in flight, and otherwise keeps its mark. -/
theorem OutboxEntry.replace_eq (e : OutboxEntry) (r : OutboxRequest) :
    e.replace r = { e with values := r.values, newest := r.newest, spacing := r.spacing
                           revised := if e.inFlight then true else e.revised } := by
  cases hf : e.inFlight <;> simp [OutboxEntry.replace, hf]

/-- The test that `takeRequest` makes: some entry holds the request's tag. -/
theorem Publisher.any_tag_iff (p : Publisher) (r : OutboxRequest) :
    p.outbox.any (fun e => e.tag == r.tag) = true ↔ ∃ e ∈ p.outbox, e.tag = r.tag := by
  simp only [List.any_eq_true, beq_iff_eq]

/-- R62, R69: a tag without an entry gets one at the tail, and escalation is judged on the new count. -/
theorem Publisher.takeRequest_of_new (c : Settings) (r : OutboxRequest) (p : Publisher)
    (h : ∀ e ∈ p.outbox, e.tag ≠ r.tag) :
    p.takeRequest c r = { p with outbox := p.outbox ++ [r.entry]
                                 escalated := escalation c (p.outbox.length + 1) p.escalated } := by
  have hno : ¬ p.outbox.any (fun e => e.tag == r.tag) = true := fun hany => by
    obtain ⟨e, he, htag⟩ := (p.any_tag_iff r).mp hany
    exact h e he htag
  exact if_neg hno

/-- R63, R64, R70: a tag that has an entry gets that entry's contents replaced at its place, and the coalesce counted. -/
theorem Publisher.takeRequest_of_held (c : Settings) (r : OutboxRequest) (p : Publisher)
    (h : ∃ e ∈ p.outbox, e.tag = r.tag) :
    p.takeRequest c r = { p with outbox := p.outbox.map fun e => if e.tag == r.tag then e.replace r else e
                                 coalesces := satAdd Config.count16 p.coalesces 1 } :=
  if_pos ((p.any_tag_iff r).mpr h)

/-- A request leaves the publish table's own states as they are. -/
@[simp] theorem Publisher.takeRequest_entries (c : Settings) (r : OutboxRequest) (p : Publisher) :
    (p.takeRequest c r).entries = p.entries := by
  by_cases h : ∃ e ∈ p.outbox, e.tag = r.tag
  case pos => rw [p.takeRequest_of_held c r h]
  case neg => rw [p.takeRequest_of_new c r fun e he htag => h ⟨e, he, htag⟩]

/-- R63, R64: what stands at each place of the outbox after a request whose tag has an entry. -/
theorem Publisher.takeRequest_outbox_getElem? (c : Settings) (r : OutboxRequest) (p : Publisher)
    (h : ∃ e ∈ p.outbox, e.tag = r.tag) (n : Nat) :
    (p.takeRequest c r).outbox[n]? = p.outbox[n]?.map fun e => if e.tag = r.tag then e.replace r else e := by
  simp only [p.takeRequest_of_held c r h, List.getElem?_map, beq_iff_eq]

/-- Settles O29, by the two cases of `takeRequest`: the outbox holds no entry of the request's tag, or it holds one. -/
theorem outboxTakesARequest : Obligations.OutboxTakesARequest := by
  intro c r s
  refine ⟨rfl, s.pub.takeRequest_entries c r, fun hnew => ?_, fun hheld => ?_⟩
  · rw [State.pub_setPub, s.pub.takeRequest_of_new c r hnew]
    exact ⟨rfl, List.length_append, rfl, rfl⟩
  · have hwhole := s.pub.takeRequest_of_held c r hheld
    simp only [State.pub_setPub]
    refine ⟨?_, ?_, ?_, fun n e hn => ?_⟩
    · rw [hwhole, List.length_map]
    · rw [hwhole]
    · rw [hwhole, satAdd]
    · rw [s.pub.takeRequest_outbox_getElem? c r hheld n, hn, Option.map_some, e.replace_eq r]

end Sys2Proof.Machine

/-! The bridged value (R99): what `later` says in numbers, the two distances between stamps that add up, and the
truncated share of a difference, which never passes the difference itself; the obligation from these. -/

namespace Sys2Proof.Machine

/-- `later` in numbers: a stamp is later than another by 1 … 2^31 − 1. -/
theorem later_iff (a b : Stamp) : later a b = true ↔ 1 ≤ (a - b).toNat ∧ (a - b).toNat < 2 ^ 31 := by
  simp only [later, decide_eq_true_eq]

/-- Where X is later than t0 and t1 later than X, the distances from t0 to X and from X to t1 add up without a wrap. -/
theorem later_distance_add (t0 x t1 : Stamp) (h0 : later x t0 = true) (h1 : later t1 x = true) :
    (t1 - t0).toNat = (x - t0).toNat + (t1 - x).toNat := by
  obtain ⟨-, hx⟩ := (later_iff x t0).mp h0
  obtain ⟨-, ht⟩ := (later_iff t1 x).mp h1
  have hsplit : t1 - t0 = (x - t0) + (t1 - x) := by bv_omega
  rw [hsplit, BitVec.toNat_add_of_lt (by omega)]

/-- A truncated share n / d of a nonnegative difference, with n within d, lies between 0 and the difference. -/
theorem share_le_of_nonneg (a n d : Int) (ha : 0 ≤ a) (hn : 0 ≤ n) (hd : 0 < d) (hnd : n ≤ d) :
    0 ≤ (a * n).tdiv d ∧ (a * n).tdiv d ≤ a := by
  refine ⟨Int.tdiv_nonneg (Int.mul_nonneg ha hn) hd.le, ?_⟩
  calc (a * n).tdiv d ≤ (a * d).tdiv d := Int.tdiv_le_tdiv hd (Int.mul_le_mul_of_nonneg_left hnd ha)
    _ = a := Int.mul_tdiv_cancel a hd.ne'

/-- Truncation toward zero keeps the share of a falling difference within it too: it is the share of the difference
turned round. -/
theorem share_between (a n d : Int) (hn : 0 ≤ n) (hd : 0 < d) (hnd : n ≤ d) :
    min 0 a ≤ (a * n).tdiv d ∧ (a * n).tdiv d ≤ max 0 a := by
  rcases le_total 0 a with ha | ha
  · have hshare := share_le_of_nonneg a n d ha hn hd hnd
    omega
  · have hshare := share_le_of_nonneg (-a) n d (by omega) hn hd hnd
    rw [Int.neg_mul, Int.neg_tdiv] at hshare
    omega

/-- R99: the bridged value lies between the two samples, where X lies strictly between their stamps. -/
theorem bridge_between (x : Stamp) (s0 s1 : Sample) (hpos : 0 < (x - s0.stamp).toNat)
    (hlt : (x - s0.stamp).toNat < (s1.stamp - s0.stamp).toNat) :
    min s0.value.toInt s1.value.toInt ≤ bridge x s0 s1 ∧ bridge x s0 s1 ≤ max s0.value.toInt s1.value.toInt := by
  have hshare := share_between (s1.value.toInt - s0.value.toInt) (x - s0.stamp).toNat (s1.stamp - s0.stamp).toNat
    (by omega) (by omega) (by omega)
  rw [bridge]
  omega

/-- Settles O39: the distances of the stamps are ordered as they add up, and the share of the difference taken at X
stays within the difference. -/
theorem bridgedValueLiesBetween : Obligations.BridgedValueLiesBetween := by
  refine ⟨fun x s0 s1 h0 h1 => ?_, by decide, by decide⟩
  have hsum := later_distance_add s0.stamp x s1.stamp h0 h1
  obtain ⟨hpos, -⟩ := (later_iff x s0.stamp).mp h0
  obtain ⟨hrest, -⟩ := (later_iff s1.stamp x).mp h1
  have hlt : (x - s0.stamp).toNat < (s1.stamp - s0.stamp).toNat := by omega
  exact ⟨hpos, hlt, rfl, bridge_between x s0 s1 hpos hlt⟩

end Sys2Proof.Machine

/-! The raw effort and its clamp (R109, R110): the rounding shift as a quotient, `clamp` at each side of its range, and
the obligation from these. -/

namespace Sys2Proof.Machine

/-- R109: the raw effort is the quotient by 1024 rounded down, half a unit added first. -/
theorem rawEffort_eq (se : Int) : rawEffort se = (se + 512) / 1024 := rfl

/-- R109: the raw effort is the one integer r with r − 1/2 ≤ S_e / 1024 < r + 1/2, so a half rounds up. -/
theorem rawEffort_nearest (se : Int) :
    2 * se < 2 * 1024 * rawEffort se + 1024 ∧ 2 * 1024 * rawEffort se - 1024 ≤ 2 * se := by
  rw [rawEffort_eq]
  omega

/-- R109: a sum within ±2^34 gives a raw effort within ±2^24. -/
theorem rawEffort_bounded (se : Int) (hlo : -(2 ^ 34) ≤ se) (hhi : se ≤ 2 ^ 34) :
    -(2 ^ 24) ≤ rawEffort se ∧ rawEffort se ≤ 2 ^ 24 := by
  rw [rawEffort_eq]
  omega

/-- A clamped value lies within a range that is not empty. -/
theorem clamp_mem (lo hi x : Int) (h : lo ≤ hi) : lo ≤ clamp lo hi x ∧ clamp lo hi x ≤ hi :=
  ⟨le_max_left _ _, max_le h (min_le_left _ _)⟩

/-- The clamp leaves a value of the range as it is. -/
theorem clamp_of_mem (lo hi x : Int) (hlo : lo ≤ x) (hhi : x ≤ hi) : clamp lo hi x = x := by
  rw [clamp, min_eq_right hhi, max_eq_right hlo]

/-- The clamp takes a value above the range to its upper end. -/
theorem clamp_of_gt (lo hi x : Int) (h : lo ≤ hi) (hx : hi < x) : clamp lo hi x = hi := by
  rw [clamp, min_eq_left hx.le, max_eq_right h]

/-- The clamp takes a value below the range to its lower end. -/
theorem clamp_of_lt (lo hi x : Int) (hx : x < lo) : clamp lo hi x = lo :=
  max_eq_left ((min_le_right hi x).trans hx.le)

/-- R110: the clamp is not engaged exactly for a raw effort within the effort limit. -/
theorem clampEngaged_eq_false_iff (c : Settings) (raw : Int) :
    clampEngaged c raw = false ↔ -c.effortLimit ≤ raw ∧ raw ≤ c.effortLimit := by
  simp only [clampEngaged, decide_eq_false_iff_not, not_or, not_lt]

/-- Settles O40, by the quotient for the rounding and by `clamp` inside, above and below its range for the limit. -/
theorem rawEffortIsRoundedAndClamped : Obligations.RawEffortIsRoundedAndClamped := by
  refine ⟨fun se => ?_, by decide, by decide, fun c raw _ => ?_⟩
  · obtain ⟨hbelow, habove⟩ := rawEffort_nearest se
    exact ⟨rawEffort_eq se, hbelow, habove, rawEffort_bounded se⟩
  · have hrange : -(c.effortLimit : Int) ≤ c.effortLimit := by omega
    obtain ⟨hlo, hhi⟩ := clamp_mem _ _ raw hrange
    have hinside : clampEngaged c raw = false → clampEffort c raw = raw := fun h => by
      obtain ⟨hge, hle⟩ := (clampEngaged_eq_false_iff c raw).mp h
      exact clamp_of_mem _ _ raw hge hle
    exact ⟨hlo, hhi, clampEngaged_eq_false_iff c raw, hinside, clamp_of_gt _ _ raw hrange, clamp_of_lt _ _ raw⟩

end Sys2Proof.Machine

/-! What each shared operation makes of the blocks that it reaches: with the frames of Laws/Frames.lean these say the
whole effect of an operation, so that no later proof opens its text. -/

namespace Sys2Proof.Machine

variable (s : State) (c : Settings)

/-! ### Flags -/

/-- A raise under a condition, at the fault unit. -/
theorem raiseIf_fault (b : Bool) (f : Flag) : (raiseIf b f s).fault =
    if b then s.fault.raise s.stopRoutes s.noteRoutes s.now f else s.fault := by
  cases b <;> rfl

@[simp] theorem raise_readings (f : Flag) : (raise f s).stopRoutes = s.stopRoutes ∧
    (raise f s).noteRoutes = s.noteRoutes ∧ (raise f s).now = s.now := ⟨rfl, rfl, rfl⟩

@[simp] theorem raiseIf_readings (b : Bool) (f : Flag) : (raiseIf b f s).stopRoutes = s.stopRoutes ∧
    (raiseIf b f s).noteRoutes = s.noteRoutes ∧ (raiseIf b f s).now = s.now := by cases b <;> exact ⟨rfl, rfl, rfl⟩

@[simp] theorem raiseIf_true (f : Flag) : raiseIf true f s = raise f s := rfl

@[simp] theorem raiseIf_false (f : Flag) : raiseIf false f s = s := rfl

/-- The flags after a raise under a condition. -/
theorem hasFlag_raiseIf (b : Bool) (f g : Flag) :
    hasFlag (raiseIf b f s).fault.flags g = (hasFlag s.fault.flags g || (b && decide (f = g))) := by
  cases b
  · simp
  · simp [raise_fault, hasFlag_raise]

/-! ### Time -/

theorem advance_loader_eq (us : Nat) : (s.advance us).loader = s.loader.count (!s.line.busy) us := rfl

theorem advance_time_eq (us : Nat) : (s.advance us).time = s.time.count us := rfl

@[simp] theorem TimeUnit.count_state (t : TimeUnit) (us : Nat) : (t.count us).state = t.state := by
  unfold TimeUnit.count; split <;> rfl

/-- The clock reads 0 wherever it is stopped, and itself elsewhere. -/
theorem now_of_running {s : State} (h : s.time.state ≠ .stopped) : s.now = s.time.clock := if_neg h

@[simp] theorem leaveTo_time (st : TimeState) : (leaveTo st s).time = { s.time with state := st } := by
  simp [leaveTo]

theorem jump_time_state (diff : Int) : (jump c diff s).time.state = s.time.state := by
  unfold jump; dsimp only; split
  · rfl
  · split <;> rfl

/-! ### The drive unit -/

@[simp] theorem enterDisarmed_drive : (enterDisarmed s).drive = s.drive.idleIn .disarmed := rfl
@[simp] theorem enterDisarmed_mix : (enterDisarmed s).mix = { s.mix with integral := 0 } := rfl
@[simp] theorem enterCoast_drive : (enterCoast s).drive = s.drive.idleIn .coast := rfl
@[simp] theorem enterActive_drive : (enterActive s).drive = { s.drive with state := .active, drvEn := true } := rfl

@[simp] theorem DriveUnit.applySetting_keeps (d : DriveUnit) : d.applySetting.state = d.state ∧
    d.applySetting.drvEn = d.drvEn ∧ d.applySetting.drvPwm = d.drvPwm ∧ d.applySetting.drvDir = d.drvDir ∧
    d.applySetting.pendingSetting = none := by
  unfold DriveUnit.applySetting; split
  · simp_all
  · split <;> simp

@[simp] theorem DriveUnit.beginPeriod_keeps (d : DriveUnit) : d.beginPeriod.state = d.state ∧
    d.beginPeriod.drvEn = d.drvEn ∧ d.beginPeriod.duty = d.duty ∧ d.beginPeriod.direction = d.direction ∧
    d.beginPeriod.pendingSetting = d.pendingSetting := by
  unfold DriveUnit.beginPeriod; split <;> simp

@[simp] theorem DriveUnit.endOnTime_keeps (d : DriveUnit) : d.endOnTime.state = d.state ∧
    d.endOnTime.drvEn = d.drvEn ∧ d.endOnTime.duty = d.duty ∧ d.endOnTime.direction = d.direction ∧
    d.endOnTime.pendingSetting = d.pendingSetting ∧ d.endOnTime.drvDir = d.drvDir := by
  unfold DriveUnit.endOnTime; split <;> simp

/-! ### The bus controller and the items of a frame -/

@[simp] theorem beginPass_bus : (beginPass c s).bus =
    { s.bus with passTickIndex := s.tickIndex, position := c.station - s.tickIndex, wheel := .pass 0 } := rfl

@[simp] theorem endBackoff_bus :
    (endBackoff s).bus = { s.bus with tx := if s.bus.tx = .backoff then .ready else s.bus.tx } := rfl

@[simp] theorem twinFrame_bus :
    (twinFrame s).bus = { s.bus with tx := if s.bus.tx = .silent then .silent else .muted } := rfl

@[simp] theorem twinFrame_fault : (twinFrame s).fault = (raise .twin s).fault := rfl

@[simp] theorem startFrame_bus (k : BusClass) : (startFrame c k s).bus = { s.bus with
    tx := .sending, classInForce := some k, copy := some (s.frameCopy c k), sequence := s.bus.sequence + 1
    collided := false, driving := .frame, wheel := .stopped } := rfl

@[simp] theorem startFrame_fault (k : BusClass) : (startFrame c k s).fault =
    if s.frameKind = .data then s.fault.noteTaken else s.fault := rfl

@[simp] theorem startFrame_pub (k : BusClass) : (startFrame c k s).pub =
    (if s.frameKind = .data then { s.pub with outbox := markTaken (s.entriesTaken c) s.pub.outbox }
      else s.pub).beatReload := rfl

@[simp] theorem startFrame_line (k : BusClass) :
    (startFrame c k s).line = { busy := true, abandoned := false } := rfl

@[simp] theorem collidedItems_bus (f : FrameCopy) : (collidedItems f s).bus = { s.bus.endFrame with
    consecutive := s.bus.consecutive + 1
    collisionTotal := satAdd Config.count16 s.bus.collisionTotal 1 } := rfl

@[simp] theorem collidedItems_fault (f : FrameCopy) : (collidedItems f s).fault =
    if f.note.isSome then s.fault.noteCollided else s.fault := rfl

@[simp] theorem collidedItems_pub (f : FrameCopy) : (collidedItems f s).pub = s.pub.releaseCollided := rfl

@[simp] theorem collidedItems_test (f : FrameCopy) : (collidedItems f s).test =
    if f.kind = .test then s.test.sentCollided else s.test := rfl

/-- The fourth collision in a row, at the bus controller. -/
theorem collisionsJudged_bus : (collisionsJudged s).bus =
    if Config.collisionLimit ≤ s.bus.consecutive ∧ (s.bus.tx = .ready ∨ s.bus.tx = .sending) then
      { s.bus with consecutive := 0, tx := .backoff, quietWheels := 0 }
    else s.bus := by
  unfold collisionsJudged; split <;> simp

/-- The fourth collision in a row, at the fault unit. -/
theorem collisionsJudged_fault : (collisionsJudged s).fault =
    if Config.collisionLimit ≤ s.bus.consecutive ∧ (s.bus.tx = .ready ∨ s.bus.tx = .sending) then
      (raise .contention s).fault
    else s.fault := by
  unfold collisionsJudged; split <;> rfl

@[simp] theorem releaseCarried_bus (f : FrameCopy) :
    (releaseCarried c f s).bus = { s.bus.endFrame with consecutive := 0 } := rfl

@[simp] theorem releaseCarried_fault (f : FrameCopy) : (releaseCarried c f s).fault =
    if f.note.isSome then s.fault.noteReleased else s.fault := rfl

@[simp] theorem releaseCarried_req (f : FrameCopy) : (releaseCarried c f s).req = { s.req with
    list := releaseRequests f.requests s.req.list
    statusPending := s.req.statusPending && f.status.isNone } := rfl

@[simp] theorem releaseCarried_pub (f : FrameCopy) : (releaseCarried c f s).pub = s.pub.releaseClean c := rfl

@[simp] theorem releaseCarried_test (f : FrameCopy) : (releaseCarried c f s).test = match f.test with
    | some b => s.test.sentClean b.last
    | none => s.test := rfl

/-! ### The listen table and the reception unit -/

@[simp] theorem clearClashes_listen : (clearClashes s).listen = mapAt (fun _ slot => slot.clear) s.listen := rfl
@[simp] theorem clearTaken_listen : (clearTaken s).listen = mapAt (fun _ slot => slot.clear) s.listen := rfl
@[simp] theorem clearTaken_rx : (clearTaken s).rx = { s.rx with noiseBucket := 0 } := rfl
@[simp] theorem clearTaken_fault : (clearTaken s).fault = (clearFlags s).fault := rfl
@[simp] theorem listenTick_listen : (listenTick c s).listen =
    mapAt (fun k slot => slot.tick c s.now (c.slots.get k).enabled) s.listen := rfl

@[simp] theorem Reception.leakJudged_keeps (r : Reception) : r.leakJudged.corrupted = r.corrupted ∧
    r.leakJudged.arrival = r.arrival ∧ r.leakJudged.roster = r.roster := by
  unfold Reception.leakJudged; split <;> simp

@[simp] theorem Reception.tick_keeps (r : Reception) : r.tick.corrupted = r.corrupted ∧
    r.tick.arrival = r.arrival ∧ r.tick.roster = r.roster := by
  simp [Reception.tick]

/-! ### The loader and the entry to RUN -/

@[simp] theorem reject_loader : (reject s).loader = { s.loader with phase := .off, stage := .finished } := rfl

@[simp] theorem reject_fault : (reject s).fault = (raise .config s).fault := rfl

@[simp] theorem accept_loader : (accept c s).loader =
    { s.loader with phase := .listen, stage := .finished, listenQuiet := 0 } := rfl

@[simp] theorem accept_settings : (accept c s).settings = some c := rfl
@[simp] theorem accept_drive : (accept c s).drive = s.drive.idleIn .disarmed := rfl
@[simp] theorem accept_mix : (accept c s).mix = { s.mix with integral := 0 } := rfl
@[simp] theorem accept_fault : (accept c s).fault =
    (s.fault.joinNote (s.fault.flags &&& c.noteRoutes) s.now).drivePins c.stopRoutes := rfl

@[simp] theorem enterRun_bus :
    (enterRun c s).bus = { s.bus with tx := if hasFlag s.fault.flags .twin then .muted else .ready } := rfl
@[simp] theorem enterRun_loader : (enterRun c s).loader = { s.loader with phase := .run } := rfl
@[simp] theorem enterRun_pub : (enterRun c s).pub = s.pub.enterRun c := rfl
@[simp] theorem startClock_time (st : TimeState) (value : Stamp) : (startClock st value s).time =
    { s.time with clock := value, state := st, lockTimer := 0, lastTick := value } := rfl

@[simp] theorem adopt_bus (f : HeardFrame) : (adopt c f s).bus =
    { s.bus with tx := if hasFlag s.fault.flags .twin then .muted else .ready } := rfl
@[simp] theorem adopt_loader (f : HeardFrame) : (adopt c f s).loader = { s.loader with phase := .run } := rfl
@[simp] theorem adopt_pub (f : HeardFrame) : (adopt c f s).pub = s.pub.enterRun c := rfl
@[simp] theorem adopt_time (f : HeardFrame) : (adopt c f s).time =
    { s.time with clock := adoptedClock f.stamp f.length, state := .locked, lockTimer := 0
                  lastTick := adoptedClock f.stamp f.length } := rfl

@[simp] theorem quietLimitTaken_loader : (quietLimitTaken c s).loader =
    { (s.advance (Config.quietLimit - s.loader.listenQuiet)).loader with phase := .run } := rfl

@[simp] theorem quietLimitTaken_drive : (quietLimitTaken c s).drive =
    (s.advance (Config.quietLimit - s.loader.listenQuiet)).drive := rfl

@[simp] theorem quietLimitTaken_pub : (quietLimitTaken c s).pub = s.pub.enterRun c := rfl

@[simp] theorem quietLimitTaken_time : (quietLimitTaken c s).time =
    { s.time with clock := 0, state := .alone, lockTimer := 0, lastTick := 0 } := by
  simp [quietLimitTaken]

/-- The bus controller at the quiet limit: muted where TWIN is set, else in its first pass. -/
theorem quietLimitTaken_bus : (quietLimitTaken c s).bus = { s.bus with
    tx := if hasFlag s.fault.flags .twin then .muted else .ready
    passTickIndex := 0
    position := if hasFlag s.fault.flags .twin then s.bus.position else c.station
    wheel := if hasFlag s.fault.flags .twin then .stopped else .pass 0 } := by
  cases h : hasFlag s.fault.flags .twin <;> simp [quietLimitTaken, h]

/-! ### The test unit -/

@[simp] theorem TestUnit.startPulse_keeps (t : TestUnit) : t.startPulse.state = t.state ∧
    t.startPulse.sender = t.sender ∧ t.startPulse.frameCount = t.frameCount ∧ t.startPulse.index = t.index ∧
    t.startPulse.due = t.due ∧ t.startPulse.quiet = t.quiet ∧ t.startPulse.errors = t.errors ∧
    t.startPulse.owed = t.owed ∧ t.startPulse.result = t.result := by
  unfold TestUnit.startPulse; split <;> simp

@[simp] theorem TestUnit.countErrors_keeps (n : Nat) (t : TestUnit) : (t.countErrors n).state = t.state ∧
    (t.countErrors n).sender = t.sender ∧ (t.countErrors n).frameCount = t.frameCount ∧
    (t.countErrors n).index = t.index ∧ (t.countErrors n).due = t.due ∧ (t.countErrors n).quiet = t.quiet ∧
    (t.countErrors n).errors = satAdd Config.count16 t.errors n ∧
    (t.countErrors n).owed = satAdd Config.count8 t.owed n ∧ (t.countErrors n).result = t.result := by
  simp [TestUnit.countErrors]

end Sys2Proof.Machine

/-! What every step keeps: a property that every small change keeps, and that does not read the queue, is kept by
`step`. The invariants of sections 1.4, 8.1, 9.2 and 12.1 follow from one case split over the changes each. -/

namespace Sys2Proof.Machine

/-- A property that the queue does not reach and that every change keeps is kept by every step. -/
theorem keeps_step (P : State → Prop) (hq : ∀ s q, P s → P (s.setPending q)) (hP : ∀ s t, Change s t → P s → P t)
    {s t : State} (h : step s = .next t) (hs : P s) : P t := by
  unfold step at h
  split at h
  · cases h; exact hs
  · exact keeps_exec P hP _ _ _ h (hq _ _ hs)

/-! ## The phases -/

/-- The readings that `PhasesAgree` speaks of: where they agree, so does the property. -/
theorem State.PhasesAgree.congr {s t : State} (h : s.PhasesAgree) (hsettings : t.settings = s.settings)
    (hreset : t.resetLow = s.resetLow) (hphase : t.loader.phase = s.loader.phase)
    (hstage : t.loader.stage = .finished ↔ s.loader.stage = .finished)
    (hidle : t.loader.stage = .idle ↔ s.loader.stage = .idle)
    (htime : t.time.state = .stopped ↔ s.time.state = .stopped)
    (hclock : s.time.state = .stopped → t.time.clock = s.time.clock)
    (hdrive : t.drive.state = .off ↔ s.drive.state = .off) (htx : t.bus.tx = .silent ↔ s.bus.tx = .silent) :
    t.PhasesAgree := by
  obtain ⟨h₁, h₂, h₃, h₄, h₅, h₆, h₇⟩ := h
  refine ⟨?_, ?_, ?_, ?_, fun ht => ?_, ?_, ?_⟩
  · rw [hsettings, hphase, h₁]
  · rw [hstage, hphase, h₂]
  · rw [hreset, hidle, h₃]
  · rw [htime, hphase, h₄]
  · rw [hclock (htime.mp ht), h₅ (htime.mp ht)]
  · rw [hdrive, hphase, h₆]
  · rw [htx, hphase, h₇]

/-- An attempt is in LOAD, and the settings are those of no image yet. -/
theorem State.PhasesAgree.of_stage {s : State} (h : s.PhasesAgree)
    (hs : s.loader.stage = .attempting ∨ s.loader.stage = .waiting) :
    s.loader.phase = .load ∧ s.settings = none ∧ s.resetLow = false ∧ s.time.state = .stopped ∧
    s.time.clock = 0 ∧ s.drive.state = .off ∧ s.bus.tx = .silent := by
  obtain ⟨h₁, h₂, h₃, h₄, h₅, h₆, h₇⟩ := h
  have hload : s.loader.phase = .load := by
    by_contra hne; rcases hs with hs | hs <;> simp [hs] at h₂ <;> exact hne h₂
  have hstopped : s.time.state = .stopped := h₄.mpr (by simp [hload])
  have hreset : s.resetLow = false := by rcases hs with hs | hs <;> simpa [hs] using h₃
  exact ⟨hload, h₁.mpr (.inl hload), hreset, hstopped, h₅ hstopped, h₆.mpr (.inl hload), h₇.mpr (by simp [hload])⟩

theorem Change.keeps_phasesAgree {s t : State} (h : Change s t) (hs : s.PhasesAgree) : t.PhasesAgree := by
  cases h
  case accept c image hst _ =>
    obtain ⟨-, -, hreset, hstopped, hclock, -, htx⟩ := hs.of_stage (.inl hst)
    simp [State.PhasesAgree, DriveUnit.idleIn, hreset, hstopped, hclock, htx]
  case reject hst =>
    obtain ⟨-, hnone, hreset, hstopped, hclock, hoff, htx⟩ := hs.of_stage hst
    simp [State.PhasesAgree, hnone, hreset, hstopped, hclock, hoff, htx]
  case attempt l hst hst' hphase _ _ =>
    refine hs.congr rfl rfl hphase ?_ ?_ Iff.rfl (fun _ => rfl) Iff.rfl Iff.rfl <;>
      rcases hst with h | h <;> rcases hst' with h' | h' <;> simp [h, h']
  case release n hlow =>
    obtain ⟨h₁, h₂, h₃, h₄, h₅, h₆, h₇⟩ := hs
    have hidle : s.loader.stage = .idle := h₃.mp hlow
    have hload : s.loader.phase = .load := by simpa [hidle] using h₂
    refine ⟨h₁, ?_, ?_, h₄, h₅, h₆, h₇⟩ <;>
      by_cases hn : Config.freeingClocks < n <;> simp [Loader.beginAttempt, hn, hload]
  case reset => simp [State.PhasesAgree, State.reset, Loader.reset, TimeUnit.reset, DriveUnit.reset, BusController.reset]
  case adopt c f hset hphase =>
    obtain ⟨h₁, h₂, h₃, h₄, h₅, h₆, h₇⟩ := hs
    simp only [hphase] at h₂ h₆
    simp [State.PhasesAgree, hset, h₂.mpr, h₃, h₆, apply_ite (· = TxState.silent)]
  case quietLimit c hset hphase =>
    obtain ⟨h₁, h₂, h₃, h₄, h₅, h₆, h₇⟩ := hs
    simp only [hphase] at h₂ h₆
    simp [State.PhasesAgree, hset, h₂.mpr, h₃, h₆, quietLimitTaken_bus, apply_ite (· = TxState.silent)]
  all_goals
    refine hs.congr ?_ ?_ ?_ ?_ ?_ ?_ ?_ ?_ ?_ <;>
      try simp
  case advance us => exact fun hst => by rw [advance_time_stopped s us hst]
  case disarm hd => rcases hd with h | h | h <;> simp [DriveUnit.idleIn, h]
  case coast hd => rcases hd with h | h <;> simp [DriveUnit.idleIn, h]
  case arm hd => rcases hd with h | h <;> simp [h]
  case hold hd => simp [hd]
  case leave st ht hst => rcases hst with h | h <;> simp [h, ht]
  case jump c diff ht => rw [jump_time_state]
  case jump c diff ht => exact fun h => absurd h ht
  case agree ht => exact ht
  case bus b htx _ _ _ => rw [htx]
  case pass => unfold BusController.passDone; (repeat' split) <;> simp_all
  case ready b htx hready _ _ _ => simp [htx, hready]
  case frame htx _ => simp [htx]
  case collided f htx =>
    rw [collidedEnd, collisionsJudged_bus]; split <;> simp [BusController.endFrame, htx]
  case clean htx => simp [BusController.endFrame, htx]
  case noCopy htx => simp [BusController.endFrame, htx]
  case judged =>
    rw [collisionsJudged_bus]; split
    · rename_i hlimit; rcases hlimit.2 with h | h <;> simp [h]
    · rfl

/-- Settles O51, by the small changes: `PhasesAgree` is kept by each. -/
theorem stepKeepsThePhasesInAgreement : Obligations.StepKeepsThePhasesInAgreement := fun _ _ h hs =>
  keeps_step State.PhasesAgree (fun _ _ hs => hs) (fun _ _ => Change.keeps_phasesAgree) h hs

end Sys2Proof.Machine

/-! The fault unit's pins and note, and the silence of a twin (sections 1.4, 9.2, 9.3 and 9.5): what each operation of
the fault unit keeps, then the changes. -/

namespace Sys2Proof.Machine

/-! ## The pins -/

/-- R155, R156, of a fault unit under the STOP routes `sr`. -/
def FaultUnit.PinsFollow (sr : FlagSet) (u : FaultUnit) : Prop :=
  (u.faultPin = true ↔ u.flags = 0) ∧ (u.stopPull = true ↔ u.flags &&& sr ≠ 0)

theorem State.faultPinsFollow_iff (s : State) : s.FaultPinsFollow ↔ s.fault.PinsFollow s.stopRoutes := Iff.rfl

theorem FaultUnit.PinsFollow.congr {sr : FlagSet} {u v : FaultUnit} (h : u.PinsFollow sr) (hflags : v.flags = u.flags)
    (hpin : v.faultPin = u.faultPin) (hpull : v.stopPull = u.stopPull) : v.PinsFollow sr := by
  unfold FaultUnit.PinsFollow; rw [hflags, hpin, hpull]; exact h

theorem FaultUnit.drivePins_pinsFollow (sr : FlagSet) (u : FaultUnit) : (u.drivePins sr).PinsFollow sr := by
  simp [FaultUnit.PinsFollow]

theorem FaultUnit.raise_pinsFollow {sr : FlagSet} (nr : FlagSet) (now : Stamp) (f : Flag) {u : FaultUnit}
    (h : u.PinsFollow sr) : (u.raise sr nr now f).PinsFollow sr := by
  unfold FaultUnit.raise; split
  · exact h
  · exact FaultUnit.drivePins_pinsFollow sr _

theorem raise_faultPinsFollow (f : Flag) {s : State} (h : s.FaultPinsFollow) : (raise f s).FaultPinsFollow :=
  s.fault.raise_pinsFollow _ _ f h

theorem Change.keeps_faultPinsFollow {s t : State} (h : Change s t) (hs : s.FaultPinsFollow) : t.FaultPinsFollow := by
  rw [State.faultPinsFollow_iff] at *
  cases h
  case raise f _ _ => exact raise_faultPinsFollow f hs
  case clear => exact FaultUnit.drivePins_pinsFollow _ _
  case twin => exact raise_faultPinsFollow .twin hs
  case frame c k _ _ =>
    show (startFrame c k s).fault.PinsFollow s.stopRoutes
    rw [startFrame_fault]; split
    · exact hs.congr (by simp) (by simp) (by simp)
    · exact hs
  case collided f _ =>
    have hitems : (collidedItems f s).fault.PinsFollow s.stopRoutes := by
      rw [collidedItems_fault]; split
      · exact hs.congr (by simp) (by simp) (by simp)
      · exact hs
    rw [collidedEnd, stopRoutes_congr (s := s) (by simp), collisionsJudged_fault]; split
    · exact raise_faultPinsFollow (s := collidedItems f s) .contention hitems
    · exact hitems
  case clean c f _ =>
    show (releaseCarried c f s).fault.PinsFollow s.stopRoutes
    rw [releaseCarried_fault]; split
    · exact hs.congr (by simp) (by simp) (by simp)
    · exact hs
  case judged =>
    rw [stopRoutes_congr (s := s) (by simp), collisionsJudged_fault]; split
    · exact raise_faultPinsFollow .contention hs
    · exact hs
  case reject => exact raise_faultPinsFollow .config hs
  case accept => exact FaultUnit.drivePins_pinsFollow _ _
  case reset => simp [FaultUnit.PinsFollow, State.reset, FaultUnit.reset, State.stopRoutes]
  case leave st _ _ =>
    show FaultUnit.PinsFollow (leaveTo st s).stopRoutes (raiseIf _ _ _).fault
    rw [stopRoutes_congr (s := s) (by simp), raiseIf_fault]; split
    · exact FaultUnit.raise_pinsFollow _ _ _ hs
    · exact hs
  all_goals
    rw [stopRoutes_congr (s := s) (by simp)]
    simpa using hs

/-! ## The note -/

theorem FaultUnit.joinNote_noteStateLegal (rising : FlagSet) (now : Stamp) {u : FaultUnit} (h : u.NoteStateLegal) :
    (u.joinNote rising now).NoteStateLegal := by
  obtain ⟨hnone, hpending, hinFlight⟩ := h
  unfold FaultUnit.joinNote
  split
  · exact ⟨hnone, hpending, hinFlight⟩
  · rename_i hrising
    split
    · rename_i hfly; exact ⟨hnone, hpending, fun h => absurd (hfly.symm.trans h) (by decide)⟩
    · rename_i hfly
      split
      · rename_i hp; refine ⟨fun h => absurd (hp.symm.trans h) (by decide), fun _ hzero => ?_, hinFlight⟩
        exact hrising (BitVec.or_eq_zero_iff.mp hzero).2
      · exact ⟨fun h => absurd h (by simp), fun _ => hrising, hinFlight⟩

/-- The note state is read from the note's own fields. -/
theorem FaultUnit.NoteStateLegal.congr {u v : FaultUnit} (h : u.NoteStateLegal) (hp : v.notePending = u.notePending)
    (hn : v.newlyRaised = u.newlyRaised) (hfly : v.noteInFlight = u.noteInFlight) (hf : v.following = u.following) :
    v.NoteStateLegal := by
  unfold FaultUnit.NoteStateLegal; rw [hp, hn, hfly, hf]; exact h

theorem FaultUnit.drivePins_noteStateLegal (sr : FlagSet) {u : FaultUnit} (h : u.NoteStateLegal) :
    (u.drivePins sr).NoteStateLegal := h.congr (by simp) (by simp) (by simp) (by simp)

theorem FaultUnit.raise_noteStateLegal (sr nr : FlagSet) (now : Stamp) (f : Flag) {u : FaultUnit}
    (h : u.NoteStateLegal) : (u.raise sr nr now f).NoteStateLegal := by
  unfold FaultUnit.raise; split
  · exact h
  · exact drivePins_noteStateLegal sr (joinNote_noteStateLegal _ _ (h.congr rfl rfl rfl rfl))

/-- A capture puts a pending note in flight. -/
theorem FaultUnit.noteTaken_noteStateLegal {u : FaultUnit} (h : u.NoteStateLegal) : u.noteTaken.NoteStateLegal := by
  unfold FaultUnit.noteTaken; split
  · rename_i hp; simpa [FaultUnit.NoteStateLegal, hp] using h.2.1 hp
  · exact h

/-- A note in no state has no following flags, so that a release or a collision leaves none. -/
theorem FaultUnit.NoteStateLegal.following_eq {u : FaultUnit} (h : u.NoteStateLegal) (hp : u.notePending = false) :
    u.following = 0 := h.2.2 (h.1 hp).2

theorem FaultUnit.noteReleased_noteStateLegal {u : FaultUnit} (h : u.NoteStateLegal) :
    u.noteReleased.NoteStateLegal := by
  unfold FaultUnit.noteReleased; split
  · rename_i hf; simp [FaultUnit.NoteStateLegal, hf]
  · rename_i hf; exact ⟨fun hp => absurd (h.following_eq hp) hf, fun _ => hf, fun _ => rfl⟩

theorem FaultUnit.noteCollided_noteStateLegal {u : FaultUnit} (h : u.NoteStateLegal) :
    u.noteCollided.NoteStateLegal := by
  refine ⟨fun hp => ⟨?_, rfl⟩, fun hp hzero => ?_, fun _ => rfl⟩
  · simp [FaultUnit.noteCollided, h.following_eq hp, (h.1 hp).1]
  · exact h.2.1 hp (BitVec.or_eq_zero_iff.mp hzero).1

theorem Change.keeps_noteStateLegal {s t : State} (h : Change s t) (hs : s.fault.NoteStateLegal) :
    t.fault.NoteStateLegal := by
  have hraise (f : Flag) (u : State) (hu : u.fault.NoteStateLegal) : (Machine.raise f u).fault.NoteStateLegal :=
    FaultUnit.raise_noteStateLegal _ _ _ f hu
  cases h
  case raise f _ _ => exact hraise f s hs
  case clear => exact FaultUnit.drivePins_noteStateLegal _ (hs.congr rfl rfl rfl rfl)
  case twin => exact hraise .twin s hs
  case frame c k _ _ =>
    rw [startFrame_fault]; split
    · exact FaultUnit.noteTaken_noteStateLegal hs
    · exact hs
  case collided f _ =>
    have hitems : (collidedItems f s).fault.NoteStateLegal := by
      rw [collidedItems_fault]; split
      · exact FaultUnit.noteCollided_noteStateLegal hs
      · exact hs
    rw [collidedEnd, collisionsJudged_fault]; split
    · exact hraise .contention _ hitems
    · exact hitems
  case clean c f _ =>
    rw [releaseCarried_fault]; split
    · exact FaultUnit.noteReleased_noteStateLegal hs
    · exact hs
  case judged =>
    rw [collisionsJudged_fault]; split
    · exact hraise .contention s hs
    · exact hs
  case reject => exact hraise .config s hs
  case accept => exact FaultUnit.drivePins_noteStateLegal _ (FaultUnit.joinNote_noteStateLegal _ _ hs)
  case reset => simp [FaultUnit.NoteStateLegal, State.reset, FaultUnit.reset]
  case leave st _ _ =>
    rw [leaveTo, raiseIf_fault]; split
    · exact FaultUnit.raise_noteStateLegal _ _ _ _ hs
    · exact hs
  all_goals simpa using hs

/-- Settles O52, by the small changes: each keeps the pins and the note state. -/
theorem stepKeepsTheFaultPinsAndNote : Obligations.StepKeepsTheFaultPinsAndNote := fun _ _ h =>
  ⟨keeps_step State.FaultPinsFollow (fun _ _ hs => hs) (fun _ _ => Change.keeps_faultPinsFollow) h,
    keeps_step (·.fault.NoteStateLegal) (fun _ _ hs => hs) (fun _ _ => Change.keeps_noteStateLegal) h⟩

/-! ## A twin -/

/-- What `TwinSilences` reads: where the transmit state and TWIN stand, so does the property. -/
theorem State.TwinSilences.congr {s t : State} (h : s.TwinSilences) (htx : t.bus.tx = s.bus.tx)
    (hflag : hasFlag t.fault.flags .twin = hasFlag s.fault.flags .twin) : t.TwinSilences := by
  unfold State.TwinSilences; rw [htx, hflag]; exact h

/-- A station that is neither SILENT nor MUTED before a change and after it has no TWIN. -/
theorem State.TwinSilences.of_transmitting {s t : State} (h : s.TwinSilences)
    (hs : s.bus.tx ≠ .silent ∧ s.bus.tx ≠ .muted) (ht : t.bus.tx ≠ .muted)
    (hflag : hasFlag t.fault.flags .twin = hasFlag s.fault.flags .twin) : t.TwinSilences := by
  have hno : hasFlag s.fault.flags .twin ≠ true := fun hf => (h.2 hf).elim hs.1 hs.2
  exact ⟨fun hm => absurd hm ht, fun hf => absurd (hflag ▸ hf) hno⟩

theorem raise_twin_flag (f : Flag) (s : State) (h : f ≠ .twin) :
    hasFlag (raise f s).fault.flags .twin = hasFlag s.fault.flags .twin := by
  simp [raise_fault, hasFlag_raise, h]

theorem collisionsJudged_twin_flag (s : State) :
    hasFlag (collisionsJudged s).fault.flags .twin = hasFlag s.fault.flags .twin := by
  rw [collisionsJudged_fault]; split
  · exact raise_twin_flag _ _ (by decide)
  · rfl

/-- Entering RUN: MUTED exactly where TWIN is set. -/
theorem twinSilences_of_enterRun {t : State}
    (h : t.bus.tx = if hasFlag t.fault.flags .twin then .muted else .ready) : t.TwinSilences := by
  cases hf : hasFlag t.fault.flags .twin <;> simp [State.TwinSilences, h, hf]

theorem Change.keeps_twinSilences {s t : State} (h : Change s t) (hs : s.TwinSilences) : t.TwinSilences := by
  cases h
  case raise f hf _ => exact hs.congr (by simp) (raise_twin_flag f s hf)
  case clear => exact hs.congr (by simp) (by simp [clearFlags, clearKeeps_twin])
  case leave st _ _ => exact hs.congr (by simp) (by rw [leaveTo, hasFlag_raiseIf]; simp)
  case adopt c f _ _ => exact twinSilences_of_enterRun (by simp)
  case quietLimit c _ _ => exact twinSilences_of_enterRun (by simp [quietLimitTaken_bus])
  case twin =>
    have hflag : hasFlag (twinFrame s).fault.flags .twin = true := by simp [raise_fault, hasFlag_raise]
    refine ⟨fun _ => hflag, fun _ => ?_⟩
    rw [twinFrame_bus]; dsimp only; split <;> simp
  case bus b htx _ _ _ => exact hs.congr htx rfl
  case pass =>
    by_cases hb : s.bus.tx = .backoff
    · refine hs.of_transmitting (by simp [hb]) ?_ rfl
      simp only [State.bus_setBus, BusController.passDone, if_pos hb]; split <;> simp
    · exact hs.congr (by simp [BusController.passDone, hb]) rfl
  case ready b hb hready _ _ _ => exact hs.of_transmitting (by simp [hb]) (by simp [hready]) rfl
  case frame c k htx _ =>
    refine hs.of_transmitting (by simp [htx]) (by simp) ?_
    rw [startFrame_fault]; split <;> simp
  case collided f htx =>
    refine hs.of_transmitting (by simp [htx]) ?_ ?_
    · rw [collidedEnd, collisionsJudged_bus]; split <;> simp [BusController.endFrame]
    · rw [collidedEnd, collisionsJudged_twin_flag, collidedItems_fault]; split <;> simp
  case clean c f htx =>
    refine hs.of_transmitting (by simp [htx]) (by simp [BusController.endFrame]) ?_
    rw [releaseCarried_fault]; split <;> simp
  case noCopy htx => exact hs.of_transmitting (by simp [htx]) (by simp [BusController.endFrame]) rfl
  case judged =>
    by_cases hlimit : Config.collisionLimit ≤ s.bus.consecutive ∧ (s.bus.tx = .ready ∨ s.bus.tx = .sending)
    · refine hs.of_transmitting ?_ ?_ (collisionsJudged_twin_flag s)
      · rcases hlimit.2 with h | h <;> simp [h]
      · simp [collisionsJudged_bus, hlimit]
    · exact hs.congr (by rw [collisionsJudged_bus, if_neg hlimit]) (collisionsJudged_twin_flag s)
  case reject => exact hs.congr (by simp) (raise_twin_flag _ _ (by decide))
  case accept => exact hs.congr (by simp) (by simp)
  case reset => simp [State.TwinSilences, State.reset, FaultUnit.reset, BusController.reset, hasFlag]
  all_goals exact hs.congr (by simp) (by simp)

/-- Settles O53, by the small changes. -/
theorem stepKeepsATwinSilent : Obligations.StepKeepsATwinSilent := fun _ _ h =>
  keeps_step State.TwinSilences (fun _ _ hs => hs) (fun _ _ => Change.keeps_twinSilences) h

end Sys2Proof.Machine

/-! The outputs, the integral and the rate port (sections 6.9, 7.2 and 8.6), change by change. -/

namespace Sys2Proof.Machine

/-- The readings of `OutputsFollow`: the drive state up to whether it is ACTIVE or HOLD, and the outputs. -/
theorem DriveUnit.OutputsFollow.congr {d e : DriveUnit} (h : d.OutputsFollow)
    (hstate : e.state = .active ∨ e.state = .hold ↔ d.state = .active ∨ d.state = .hold) (hen : e.drvEn = d.drvEn)
    (hlow : ¬(d.state = .active ∨ d.state = .hold) →
      e.duty = d.duty ∧ e.direction = d.direction ∧ e.drvPwm = d.drvPwm ∧ e.drvDir = d.drvDir) : e.OutputsFollow := by
  obtain ⟨hdrv, hout⟩ := h
  refine ⟨by rw [hen, hdrv, hstate], ?_⟩
  by_cases hs : d.state = .active ∨ d.state = .hold
  · exact (hstate.mpr hs).elim .inl fun h => .inr (.inl h)
  · obtain ⟨h₁, h₂, h₃, h₄⟩ := hlow hs
    rw [h₁, h₂, h₃, h₄]
    rcases hout with ha | hh | hzero
    · exact absurd (.inl ha) hs
    · exact absurd (.inr hh) hs
    · exact .inr (.inr hzero)

theorem DriveUnit.idleIn_outputsFollow (st : DriveState) (d : DriveUnit) (h : st ≠ .active ∧ st ≠ .hold) :
    (d.idleIn st).OutputsFollow := by
  simp [DriveUnit.OutputsFollow, DriveUnit.idleIn, h]

theorem DriveUnit.applySetting_idle (d : DriveUnit) (h : ¬(d.state = .active ∨ d.state = .hold)) :
    d.applySetting.duty = d.duty ∧ d.applySetting.direction = d.direction := by
  unfold DriveUnit.applySetting; split
  · exact ⟨rfl, rfl⟩
  · rw [if_neg fun hs => h hs.1]; exact ⟨rfl, rfl⟩

theorem DriveUnit.beginPeriod_idle (d : DriveUnit) (h : ¬(d.state = .active ∨ d.state = .hold)) :
    d.beginPeriod.drvPwm = d.drvPwm ∧ d.beginPeriod.drvDir = d.drvDir := by
  rw [DriveUnit.beginPeriod, if_neg h]; exact ⟨rfl, rfl⟩

/-- The start of a PWM period leaves the outputs of an idle drive low. -/
theorem DriveUnit.period_outputsFollow {d : DriveUnit} (h : d.OutputsFollow) :
    d.applySetting.beginPeriod.OutputsFollow := by
  refine h.congr (by simp) (by simp) fun hs => ?_
  obtain ⟨hduty, hdir⟩ := d.applySetting_idle hs
  obtain ⟨hpwm, hdrvDir⟩ := d.applySetting.beginPeriod_idle (by simpa using hs)
  simp [hduty, hdir, hpwm, hdrvDir]

theorem DriveUnit.endOnTime_outputsFollow {d : DriveUnit} (h : d.OutputsFollow) : d.endOnTime.OutputsFollow := by
  unfold DriveUnit.endOnTime; split
  · obtain ⟨hdrv, hout⟩ := h
    exact ⟨hdrv, hout.imp_right (Or.imp_right fun ⟨h₁, h₂, _, h₄⟩ => ⟨h₁, h₂, rfl, h₄⟩)⟩
  · exact h

theorem Change.keeps_outputsFollow {s t : State} (h : Change s t) (hs : s.drive.OutputsFollow) :
    t.drive.OutputsFollow := by
  cases h
  case advance us => exact hs.congr (by simp) (by simp) (by simp)
  case disarm => exact DriveUnit.idleIn_outputsFollow _ _ (by decide)
  case accept => exact DriveUnit.idleIn_outputsFollow _ _ (by decide)
  case coast => exact DriveUnit.idleIn_outputsFollow _ _ (by decide)
  case arm => simp [DriveUnit.OutputsFollow]
  case hold hactive => exact hs.congr (by simp [hactive]) rfl (by simp [hactive])
  case period => exact DriveUnit.period_outputsFollow hs
  case onTime => exact DriveUnit.endOnTime_outputsFollow hs
  case quietLimit => exact hs.congr (by simp) (by simp) (by simp)
  case reset => simp [DriveUnit.OutputsFollow, State.reset, DriveUnit.reset]
  all_goals exact hs.congr (by simp) (by simp) (by simp)

/-- The integral is 0 where the drive state was OFF or DISARMED before and is so after. -/
theorem State.IntegralClearedWhenIdle.congr {s t : State} (h : s.IntegralClearedWhenIdle)
    (hdrive : t.drive.state = s.drive.state) (hmix : t.mix.integral = s.mix.integral) : t.IntegralClearedWhenIdle := by
  unfold State.IntegralClearedWhenIdle; rw [hdrive, hmix]; exact h

theorem Change.keeps_integralClearedWhenIdle {s t : State} (h : Change s t) (hs : s.IntegralClearedWhenIdle) :
    t.IntegralClearedWhenIdle := by
  cases h
  case disarm => exact fun _ => rfl
  case accept => exact fun _ => rfl
  case coast => simp [State.IntegralClearedWhenIdle, DriveUnit.idleIn]
  case arm => simp [State.IntegralClearedWhenIdle]
  case hold => simp [State.IntegralClearedWhenIdle]
  case mix c v mask se si _ =>
    intro hidle
    have hidle : s.drive.state = .off ∨ s.drive.state = .disarmed := hidle
    rcases hidle with h | h <;> simp [MixUnit.afterTick, nextIntegral, h]
  case reset => exact fun _ => rfl
  all_goals exact hs.congr (by simp) (by simp)

theorem Change.keeps_portFollows {s t : State} (h : Change s t) (hs : s.meas.PortFollows) : t.meas.PortFollows := by
  cases h
  case meas m _ hport => exact hport hs
  case reset => simp [Measurement.PortFollows, State.reset, Measurement.reset]
  all_goals simpa using hs

/-- Settles O54, by the small changes. -/
theorem stepKeepsTheOutputsWithTheDriveState : Obligations.StepKeepsTheOutputsWithTheDriveState := fun _ _ h =>
  ⟨keeps_step (·.drive.OutputsFollow) (fun _ _ hs => hs) (fun _ _ => Change.keeps_outputsFollow) h,
    keeps_step State.IntegralClearedWhenIdle (fun _ _ hs => hs) (fun _ _ => Change.keeps_integralClearedWhenIdle) h,
    keeps_step (·.meas.PortFollows) (fun _ _ hs => hs) (fun _ _ => Change.keeps_portFollows) h⟩

end Sys2Proof.Machine

/-! The image (section 13.4): what each field's reader accepts and what it gives, as far as the settings, whose ranges
and consistency the invariants of the effort and of the counts rest on. -/

namespace Sys2Proof.Machine

/-! ## Single fields -/

theorem inRange_eq_some {lo hi x y : Nat} : inRange lo hi x = some y ↔ (lo ≤ x ∧ x ≤ hi) ∧ x = y := by
  unfold inRange; split <;> simp_all

theorem PublishSource.ofCode_eq_some {code : Byte} {s : PublishSource} :
    PublishSource.ofCode code = some s ↔ s.imageCode = code.toNat := by
  unfold PublishSource.ofCode; split <;> cases s <;> simp_all [PublishSource.imageCode] <;> omega

theorem PublishSource.imageCode_surj {n : Nat} (h : n ≤ 3) : ∃ s : PublishSource, s.imageCode = n := by
  interval_cases n
  exacts [⟨.position, rfl⟩, ⟨.rate, rfl⟩, ⟨.effort, rfl⟩, ⟨.integral, rfl⟩]

theorem PublishSource.imageCode_le (s : PublishSource) : s.imageCode ≤ 3 := by cases s <;> decide

theorem MixSource.ofCode_eq_some {code : Byte} {s : MixSource} :
    MixSource.ofCode code = some s ↔ s.imageCode = code.toNat := by
  unfold MixSource.ofCode; split
  case h_6 n h₁ h₂ h₃ h₄ h₅ =>
    have hsmall : code.toNat ≠ 1 ∧ code.toNat ≠ 2 ∧ code.toNat ≠ 3 ∧ code.toNat ≠ 4 ∧ code.toNat ≠ 5 :=
      ⟨h₁, h₂, h₃, h₄, h₅⟩
    split
    · rename_i hn
      cases s <;> simp [MixSource.imageCode, Fin.ext_iff] <;> omega
    · rename_i hn
      cases s <;> (simp [MixSource.imageCode]; omega)
  all_goals
    rename_i hcode
    rw [hcode]
    cases s <;> simp [MixSource.imageCode]
    omega

theorem MixSource.imageCode_surj {n : Nat} (h : 1 ≤ n ∧ n ≤ 5 ∨ 16 ≤ n ∧ n ≤ 27) :
    ∃ s : MixSource, s.imageCode = n := by
  rcases h with ⟨h₁, h₂⟩ | ⟨h₁, h₂⟩
  · interval_cases n
    exacts [⟨.position, rfl⟩, ⟨.rate, rfl⟩, ⟨.integral, rfl⟩, ⟨.priorEffort, rfl⟩, ⟨.bias, rfl⟩]
  · exact ⟨.slot ⟨n - 16, by omega⟩, by simp only [MixSource.imageCode]; omega⟩

theorem MixSource.imageCode_range (s : MixSource) :
    1 ≤ s.imageCode ∧ s.imageCode ≤ 5 ∨ 16 ≤ s.imageCode ∧ s.imageCode ≤ 27 := by
  cases s <;> simp only [MixSource.imageCode] <;> omega

theorem MixUse.ofCode_eq_some {code : Byte} {s : MixUse} : MixUse.ofCode code = some s ↔ s.imageCode = code.toNat := by
  unfold MixUse.ofCode; split <;> cases s <;> simp_all [MixUse.imageCode] <;> omega

theorem MixUse.imageCode_surj {n : Nat} (h : n ≤ 1) : ∃ s : MixUse, s.imageCode = n := by
  interval_cases n
  exacts [⟨.level, rfl⟩, ⟨.slope, rfl⟩]

theorem MixUse.imageCode_le (s : MixUse) : s.imageCode ≤ 1 := by cases s <;> decide

theorem MixRoute.ofCode_eq_some {code : Byte} {s : MixRoute} :
    MixRoute.ofCode code = some s ↔ s.imageCode = code.toNat := by
  unfold MixRoute.ofCode; split <;> cases s <;> simp_all [MixRoute.imageCode] <;> omega

theorem MixRoute.imageCode_surj {n : Nat} (h : n ≤ 2) : ∃ s : MixRoute, s.imageCode = n := by
  interval_cases n
  exacts [⟨.effort, rfl⟩, ⟨.integral, rfl⟩, ⟨.both, rfl⟩]

theorem MixRoute.imageCode_le (s : MixRoute) : s.imageCode ≤ 2 := by cases s <;> decide

theorem RequestKind.ofCode_eq_some {code : Byte} {k : RequestKind} :
    RequestKind.ofCode code = some k ↔ k.code.toNat = code.toNat := by
  unfold RequestKind.ofCode; split <;> cases k <;> simp_all [RequestKind.code] <;> omega

theorem RequestKind.code_surj {n : Nat} (h : 1 ≤ n ∧ n ≤ 6) : ∃ k : RequestKind, k.code.toNat = n := by
  obtain ⟨h₁, h₂⟩ := h
  interval_cases n
  exacts [⟨.arm, rfl⟩, ⟨.disarm, rfl⟩, ⟨.clear, rfl⟩, ⟨.query, rfl⟩, ⟨.testStart, rfl⟩, ⟨.testStop, rfl⟩]

theorem RequestKind.code_range (k : RequestKind) : 1 ≤ k.code.toNat ∧ k.code.toNat ≤ 6 := by cases k <;> decide

/-- The test kinds are those of the two largest codes. -/
theorem RequestKind.isTest_iff (k : RequestKind) : k.isTest = true ↔ 5 ≤ k.code.toNat := by cases k <;> decide

theorem StopAction.ofCode_eq_some {code : Byte} {a : StopAction} :
    StopAction.ofCode code = some a ↔ code.toNat ≤ 1 ∧ (a = .coast ↔ code.toNat = 1) := by
  unfold StopAction.ofCode; split <;> cases a <;> simp_all; omega

/-- A byte is 0 exactly where its number is. -/
theorem byte_eq_zero_iff (b : Byte) : b = 0 ↔ b.toNat = 0 := by
  rw [← BitVec.toNat_inj]; rfl

theorem byte_bne_zero (b : Byte) : (b != 0) = decide (b.toNat ≠ 0) := by
  rw [Bool.eq_iff_iff, bne_iff_ne, decide_eq_true_iff, ne_eq, byte_eq_zero_iff]

/-! ## The tables -/

theorem readPublishEntry_given {img : List Byte} {n : Nat} {e : PublishEntry} (h : readPublishEntry img n = some e) :
    EntryInRange img (21 + 8 * n) ∧ EntryGiven img (21 + 8 * n) e := by
  simp only [readPublishEntry, Option.bind_eq_bind, Option.bind_eq_some_iff, PublishSource.ofCode_eq_some,
    inRange_eq_some, Option.pure_def] at h
  obtain ⟨source, hsource, interval, ⟨hint, rfl⟩, burst, ⟨hburst, rfl⟩, h⟩ := h
  split at h
  · simp at h
  · rename_i hthree
    simp only [Option.bind_eq_some_iff, inRange_eq_some, Option.some.injEq] at h
    obtain ⟨phase, ⟨hphase, rfl⟩, rfl⟩ := h
    have := source.imageCode_le
    refine ⟨?_, rfl, hsource, rfl, rfl, rfl, byte_bne_zero _⟩
    simp only [EntryInRange, byteAt, halfAt]
    omega

theorem readPublishEntry_isSome {img : List Byte} {n : Nat} (h : EntryInRange img (21 + 8 * n)) :
    ∃ e, readPublishEntry img n = some e := by
  obtain ⟨hsource, hlo, hhi, hburst, hphase⟩ := h
  obtain ⟨source, hcode⟩ := PublishSource.imageCode_surj hsource
  have hs : PublishSource.ofCode (imageByte img (21 + 8 * n + 1)) = some source := PublishSource.ofCode_eq_some.mpr hcode
  have hi : inRange 4 1024 (halfAt img (21 + 8 * n + 2)) = some _ := inRange_eq_some.mpr ⟨⟨hlo, hhi⟩, rfl⟩
  have hb : inRange 1 4 (byteAt img (21 + 8 * n + 4)) = some _ := inRange_eq_some.mpr ⟨by omega, rfl⟩
  have hp : inRange 0 (halfAt img (21 + 8 * n + 2) - 1) (halfAt img (21 + 8 * n + 5)) = some _ :=
    inRange_eq_some.mpr ⟨by omega, rfl⟩
  have hthree : ¬byteAt img (21 + 8 * n + 4) = 3 := by omega
  simp only [readPublishEntry, Option.bind_eq_bind]
  rw [hs, Option.bind_some, hi, Option.bind_some, hb, Option.bind_some, if_neg hthree, hp]
  exact ⟨_, rfl⟩

theorem readMixRow_given {img : List Byte} {r : Nat} {x : Option MixRow} (h : readMixRow img r = some x) :
    RowInRange img (109 + 6 * r) ∧ RowGiven img (109 + 6 * r) x := by
  simp only [readMixRow] at h
  split at h
  · rename_i hzero
    cases h
    exact ⟨.inl ((byte_eq_zero_iff _).mp hzero), (byte_eq_zero_iff _).mp hzero⟩
  · simp only [Option.bind_eq_bind, Option.bind_eq_some_iff, MixSource.ofCode_eq_some, MixUse.ofCode_eq_some,
      MixRoute.ofCode_eq_some, inRange_eq_some, Option.pure_def, Option.some.injEq] at h
    obtain ⟨source, hsource, use, huse, route, hroute, group, ⟨hgroup, rfl⟩, rfl⟩ := h
    have h₁ := source.imageCode_range
    have h₂ := use.imageCode_le
    have h₃ := route.imageCode_le
    refine ⟨.inr ?_, hsource, huse, rfl, hroute, ?_⟩
    · simp only [byteAt]; omega
    · simp only [byteAt, Fin.ofNat]; omega

theorem readMixRow_isSome {img : List Byte} {r : Nat} (h : RowInRange img (109 + 6 * r)) :
    ∃ x, readMixRow img r = some x := by
  unfold readMixRow; dsimp only; split
  · exact ⟨_, rfl⟩
  · rename_i hzero
    obtain hz | ⟨hsource, huse, hroute, hgroup⟩ := h
    · exact absurd ((byte_eq_zero_iff _).mpr hz) hzero
    · have hpos : byteAt img (109 + 6 * r) ≠ 0 := fun hz => hzero ((byte_eq_zero_iff _).mpr hz)
      obtain ⟨source, hsourceCode⟩ := MixSource.imageCode_surj (n := byteAt img (109 + 6 * r)) (by omega)
      obtain ⟨use, huseCode⟩ := MixUse.imageCode_surj huse
      obtain ⟨route, hrouteCode⟩ := MixRoute.imageCode_surj hroute
      have hg : inRange 0 3 (byteAt img (109 + 6 * r + 5)) = some _ := inRange_eq_some.mpr ⟨by omega, rfl⟩
      rw [MixSource.ofCode_eq_some.mpr hsourceCode, MixUse.ofCode_eq_some.mpr huseCode,
        MixRoute.ofCode_eq_some.mpr hrouteCode, hg]
      exact ⟨_, rfl⟩

theorem readInput_given {img : List Byte} {i : Nat} {x : InputSetting} (h : readInput img i = some x) :
    InputInRange img (219 + 8 * i) ∧ InputGiven img (219 + 8 * i) x := by
  simp only [readInput] at h
  split at h
  · rename_i hzero
    cases h
    have hz := (byte_eq_zero_iff _).mp hzero
    exact ⟨⟨by simp only [byteAt]; omega, by simp only [byteAt]; omega⟩, hz.symm, rfl, rfl, rfl⟩
  · split at h
    · cases h
    · rename_i k hk
      have hcode := RequestKind.ofCode_eq_some.mp hk
      have hrange := k.code_range
      have htest := k.isTest_iff
      split at h
      · cases h
      · rename_i hsender
        cases h
        refine ⟨⟨by simp only [byteAt]; omega, fun h5 => ?_⟩, hcode, rfl, rfl, rfl⟩
        by_contra hbig
        exact hsender ⟨htest.mpr (by simp only [byteAt] at h5; omega), by simp only [byteAt] at hbig; omega⟩

theorem readInput_isSome {img : List Byte} {i : Nat} (h : InputInRange img (219 + 8 * i)) :
    ∃ x, readInput img i = some x := by
  obtain ⟨hkind, hsender⟩ := h
  unfold readInput; dsimp only; split
  · exact ⟨_, rfl⟩
  · rename_i hzero
    have hpos : byteAt img (219 + 8 * i) ≠ 0 := fun hz => hzero ((byte_eq_zero_iff _).mpr hz)
    obtain ⟨k, hcode⟩ := RequestKind.code_surj (n := byteAt img (219 + 8 * i)) (by omega)
    rw [RequestKind.ofCode_eq_some.mpr hcode]
    dsimp only
    rw [if_neg]
    · exact ⟨_, rfl⟩
    · rintro ⟨htest, hbig⟩
      have := hsender (by have := k.isTest_iff.mp htest; omega)
      simp only [byteAt] at this; omega

/-- A table read entry by entry: it is read exactly where every entry is, and holds them in order. -/
theorem mapM_eq_some {α β : Type} {f : α → Option β} {l : List α} {v : List β} :
    l.mapM f = some v ↔ List.Forall₂ (fun a b => f a = some b) l v := by
  induction l generalizing v with
  | nil => simp [eq_comm]
  | cons a l ih =>
    simp only [List.mapM_cons, Option.bind_eq_bind, Option.bind_eq_some_iff, Option.pure_def, Option.some.injEq, ih]
    constructor
    · rintro ⟨b, hb, w, hw, rfl⟩; exact .cons hb hw
    · rintro (_ | ⟨hb, hw⟩); exact ⟨_, hb, _, hw, rfl⟩

theorem mapM_range_given {β : Type} {f : Nat → Option β} {n : Nat} {v : List β}
    (h : (List.range n).mapM f = some v) : v.length = n ∧ ∀ i b, v[i]? = some b → f i = some b := by
  obtain ⟨hlen, hget⟩ := List.forall₂_iff_get.mp (mapM_eq_some.mp h)
  rw [List.length_range] at hlen
  refine ⟨hlen.symm, fun i b hb => ?_⟩
  obtain ⟨hi, rfl⟩ := List.getElem?_eq_some_iff.mp hb
  simpa using hget i (by simpa using by omega) hi

theorem mapM_isSome {α β : Type} {f : α → Option β} {l : List α} (h : ∀ a ∈ l, ∃ b, f a = some b) :
    ∃ v, l.mapM f = some v := by
  induction l with
  | nil => exact ⟨[], rfl⟩
  | cons a l ih =>
    obtain ⟨b, hb⟩ := h a List.mem_cons_self
    obtain ⟨v, hv⟩ := ih fun x hx => h x (List.mem_cons_of_mem _ hx)
    exact ⟨b :: v, by simp [List.mapM_cons, hb, hv]⟩

end Sys2Proof.Machine

/-! The image as a whole (R196–R198, R206): the settings that its bytes name, field by field, and their consistency. -/

namespace Sys2Proof.Machine

/-! ## The settings that the bytes name -/

/-- A route set read from the image holds every named flag but CONFIG. -/
theorem hasFlag_routeField (h : Half) (f : Flag) :
    hasFlag (routeField h) f = (decide (f ≠ .config) && h.getLsbD f.bit) := by
  cases f <;> simp [routeField, hasFlag, flagField, Flag.single, Flag.bit]

/-- A field that must lie in its range, and what is read after it. -/
theorem inRange_bind {α : Type} {lo hi x : Nat} {f : Nat → Option α} {a : α} :
    (inRange lo hi x >>= f) = some a ↔ (lo ≤ x ∧ x ≤ hi) ∧ f x = some a := by
  simp only [Option.bind_eq_bind, Option.bind_eq_some_iff, inRange_eq_some]
  exact ⟨fun ⟨_, ⟨h, rfl⟩, hf⟩ => ⟨h, hf⟩, fun ⟨h, hf⟩ => ⟨x, ⟨h, rfl⟩, hf⟩⟩

theorem bind_eq_some {α β : Type} {o : Option α} {f : α → Option β} {b : β} :
    (o >>= f) = some b ↔ ∃ a, o = some a ∧ f a = some b := Option.bind_eq_some_iff

/-- A field in its range is read, and so is what follows it. -/
theorem inRange_bind_isSome {α : Type} {lo hi x : Nat} {f : Nat → Option α} (h : lo ≤ x ∧ x ≤ hi)
    (hf : (f x).isSome) : (inRange lo hi x >>= f).isSome := by rw [inRange, if_pos h]; exact hf

theorem bind_isSome {α β : Type} {o : Option α} {f : α → Option β} {a : α} (ho : o = some a)
    (hf : (f a).isSome) : (o >>= f).isSome := by rw [ho]; exact hf

/-- R197: what is read from an image lies in the ranges, and is what the bytes name. -/
theorem readSettings_given {img : List Byte} {c : Settings} (h : readSettings img = some c) :
    ImageInRange img ∧ ImageGives img c := by
  unfold readSettings at h
  rw [inRange_bind] at h; obtain ⟨hstation, h⟩ := h
  rw [inRange_bind] at h; obtain ⟨hperiod, h⟩ := h
  rw [inRange_bind] at h; obtain ⟨htol, h⟩ := h
  rw [inRange_bind] at h; obtain ⟨hdelay, h⟩ := h
  rw [inRange_bind] at h; obtain ⟨hage, h⟩ := h
  rw [inRange_bind] at h; obtain ⟨hroster, h⟩ := h
  rw [inRange_bind] at h; obtain ⟨hbeat, h⟩ := h
  rw [inRange_bind] at h; obtain ⟨hesc, h⟩ := h
  rw [inRange_bind] at h; obtain ⟨hrelax, h⟩ := h
  rw [bind_eq_some] at h; obtain ⟨action, haction, h⟩ := h
  rw [inRange_bind] at h; obtain ⟨hcount, h⟩ := h
  rw [bind_eq_some] at h; obtain ⟨publish, hpublish, h⟩ := h
  rw [bind_eq_some] at h; obtain ⟨rows, hrows, h⟩ := h
  rw [inRange_bind] at h; obtain ⟨heffort, h⟩ := h
  rw [inRange_bind] at h; obtain ⟨hintegral, h⟩ := h
  rw [inRange_bind] at h; obtain ⟨hshift, h⟩ := h
  obtain ⟨haction, hcoast⟩ := StopAction.ofCode_eq_some.mp haction
  dsimp only at h
  split at h
  · cases h
  · rename_i hlimits
    rw [bind_eq_some] at h; obtain ⟨i0, h0, h⟩ := h
    rw [bind_eq_some] at h; obtain ⟨i1, h1, h⟩ := h
    rw [bind_eq_some] at h; obtain ⟨i2, h2, h⟩ := h
    rw [bind_eq_some] at h; obtain ⟨i3, h3, h⟩ := h
    cases h
    obtain ⟨hlen, hentries⟩ := mapM_range_given hpublish
    obtain ⟨hrowLen, hrowsGiven⟩ := mapM_range_given hrows
    have entry (n : Nat) (e : PublishEntry) (hn : publish[n]? = some e) := readPublishEntry_given (hentries n e hn)
    have row (r : Nat) (x : Option MixRow) (hr : rows[r]? = some x) := readMixRow_given (hrowsGiven r x hr)
    refine ⟨⟨?_, fun n hn => ?_, fun r hr => ?_, ?_, fun i hi => ?_⟩, ?_, fun f => ?_, ⟨hlen, fun n e hn => ?_⟩,
      fun k => ?_, ⟨hrowLen, fun r x hr => ?_⟩, fun i => ?_⟩
    · simp only [byteAt]; omega
    · have hn' : n < publish.length := hlen ▸ hn
      exact (entry n publish[n] (List.getElem?_eq_getElem hn')).1
    · have hr' : r < rows.length := hrowLen ▸ hr
      exact (row r rows[r] (List.getElem?_eq_getElem hr')).1
    · simp only [byteAt, halfAt]; omega
    · interval_cases i
      exacts [(readInput_given h0).1, (readInput_given h1).1, (readInput_given h2).1, (readInput_given h3).1]
    · refine ⟨?_, rfl, rfl, rfl, rfl, rfl, rfl, rfl, rfl, hcoast, rfl, rfl, rfl, rfl, rfl, rfl, rfl, rfl⟩
      simp only [BitVec.toNat_ofNat, byteAt]; omega
    · exact ⟨hasFlag_routeField _ f, hasFlag_routeField _ f⟩
    · exact (entry n e hn).2
    · simp only [get_ofFn, readSlot, byte_bne_zero]
    · exact (row r x hr).2
    · fin_cases i
      exacts [(readInput_given h0).2, (readInput_given h1).2, (readInput_given h2).2, (readInput_given h3).2]

/-- R197: an image whose checked fields lie in their ranges is read. -/
theorem readSettings_isSome {img : List Byte} (h : ImageInRange img) : ∃ c, readSettings img = some c := by
  obtain ⟨⟨hstation, hperiod, htol, hdelay, hage, hroster, hbeat, hesc, hrelax, haction, hcount⟩, hentries, hrows,
    ⟨heffort, hintegral, hshift, hlow, hhigh⟩, hinputs⟩ := h
  have hbyte := (imageByte img 7).isLt
  obtain ⟨action, ha⟩ : ∃ a, StopAction.ofCode (imageByte img 11) = some a := by
    obtain hz | ho : byteAt img 11 = 0 ∨ byteAt img 11 = 1 := by omega
    · exact ⟨.hold, StopAction.ofCode_eq_some.mpr ⟨haction, by simp [hz]⟩⟩
    · exact ⟨.coast, StopAction.ofCode_eq_some.mpr ⟨haction, by simp [ho]⟩⟩
  obtain ⟨publish, hp⟩ := mapM_isSome fun n hn => readPublishEntry_isSome (hentries n (List.mem_range.mp hn))
  obtain ⟨rows, hr⟩ := mapM_isSome fun r hr => readMixRow_isSome (hrows r (List.mem_range.mp hr))
  obtain ⟨i0, h0⟩ := readInput_isSome (hinputs 0 (by decide))
  obtain ⟨i1, h1⟩ := readInput_isSome (hinputs 1 (by decide))
  obtain ⟨i2, h2⟩ := readInput_isSome (hinputs 2 (by decide))
  obtain ⟨i3, h3⟩ := readInput_isSome (hinputs 3 (by decide))
  simp only [byteAt, halfAt] at *
  have hlimits : ¬(0 < (imageHalf img 210).toInt ∨ (imageHalf img 212).toInt < 0) := by omega
  rw [← Option.isSome_iff_exists]
  unfold readSettings
  refine inRange_bind_isSome (by omega) ?_
  refine inRange_bind_isSome (by omega) ?_
  refine inRange_bind_isSome (by omega) ?_
  refine inRange_bind_isSome (by omega) ?_
  refine inRange_bind_isSome (by omega) ?_
  refine inRange_bind_isSome (by omega) ?_
  refine inRange_bind_isSome (by omega) ?_
  refine inRange_bind_isSome (by omega) ?_
  refine inRange_bind_isSome (by omega) (bind_isSome ha ?_)
  refine inRange_bind_isSome (by omega) (bind_isSome hp (bind_isSome hr ?_))
  refine inRange_bind_isSome (by omega) ?_
  refine inRange_bind_isSome (by omega) ?_
  refine inRange_bind_isSome (by omega) ?_
  dsimp only
  rw [if_neg hlimits]
  exact bind_isSome h0 (bind_isSome h1 (bind_isSome h2 (bind_isSome h3 rfl)))

/-- The ranges of the settings are those of the image's fields. -/
theorem ImageGives.inRange {img : List Byte} {c : Settings} (hr : ImageInRange img) (hg : ImageGives img c) :
    c.InRange := by
  obtain ⟨hfields, hentries, -, ⟨heffort, hintegral, hshift, hlow, hhigh⟩, -⟩ := hr
  obtain ⟨⟨-, hperiod, htol, hdelay, hage, hroster, hbeat, hesc, -, -, -, he, hi, hs, hlo, hhi, -, hsat⟩, -,
    ⟨hlen, hentry⟩, -, ⟨hrowLen, -⟩, -⟩ := hg
  have h7 := (imageByte img 7).isLt
  have h218 := (imageByte img 218).isLt
  have h210 := BitVec.le_toInt (imageHalf img 210)
  have h212 := BitVec.toInt_lt (x := imageHalf img 212)
  simp only [byteAt, halfAt] at *
  refine ⟨by omega, by omega, by omega, by omega, by omega, by omega, by omega, by omega, fun e hmem => ?_, hrowLen,
    by omega, by omega, by omega, by omega, by omega, by omega⟩
  obtain ⟨n, hn, rfl⟩ := List.getElem_of_mem hmem
  obtain ⟨-, -, hint, hburst, hphase, -⟩ := hentry n _ (List.getElem?_eq_getElem hn)
  have hrange := hentries n (by omega)
  simp only [EntryInRange, byteAt, halfAt] at hrange
  simp only [PublishEntry.InRange, hint, hburst, hphase, byteAt, halfAt]
  omega

/-! ## Consistency -/

theorem distinctTags_iff (l : List Byte) : distinctTags l = true ↔ l.Nodup := by
  induction l with
  | nil => simp [distinctTags]
  | cons t ts ih => simp [distinctTags, ih]

theorem Settings.rowConsistent_iff (c : Settings) (row : MixRow) : c.rowConsistent row = true ↔
    ∀ k, row.source = .slot k → row.group ≠ 0 ∧ (c.slots.get k).enabled = true := by
  cases hsource : row.source <;> simp [Settings.rowConsistent, hsource]

theorem PublishEntry.consistent_iff (e : PublishEntry) : e.consistent = true ↔
    (e.enabled = true → e.burst = 1 ∨ e.interval % (4 * e.burst) = 0) := by
  cases he : e.enabled <;> simp [PublishEntry.consistent, he]

/-- R198: the checks one by one. -/
theorem Settings.consistent_iff (c : Settings) : c.consistent = true ↔ c.IsConsistent := by
  have hrows : (∀ x ∈ c.mixRows, x.all c.rowConsistent = true) ↔
      ∀ row k, some row ∈ c.mixRows → row.source = .slot k → row.group ≠ 0 ∧ (c.slots.get k).enabled = true := by
    constructor
    · intro h row k hmem hsource
      exact (c.rowConsistent_iff row).mp (by simpa using h _ hmem) k hsource
    · rintro h (_ | row) hmem
      · rfl
      · exact (c.rowConsistent_iff row).mpr fun k => h row k hmem
  simp only [Settings.consistent, Bool.and_eq_true, distinctTags_iff, List.all_eq_true, hrows,
    PublishEntry.consistent_iff, decide_eq_true_iff, Settings.IsConsistent, and_assoc, Bool.not_eq_true',
    List.contains_eq_mem, decide_eq_false_iff_not]

/-- R196–R198: what an accepted image is. -/
theorem judgeImage_eq_some {img : List Byte} {c : Settings} : judgeImage img = some c ↔
    (imageHalf img 0 = Config.formatMark ∧ crc16 (img.take 254) = imageHalf img 254) ∧ readSettings img = some c ∧
      c.consistent = true := by
  unfold judgeImage
  split
  · rename_i hmark
    cases hread : readSettings img with
    | none => simp
    | some d =>
      cases hd : d.consistent
      · simp only [hd, Bool.false_eq_true, if_false, false_iff, reduceCtorEq]
        rintro ⟨-, h, hc⟩; cases h; exact absurd (hd.symm.trans hc) (by decide)
      · simp only [hd, if_true, Option.some.injEq]
        exact ⟨fun h => ⟨hmark, h, h ▸ hd⟩, fun h => h.2.1⟩
  · rename_i hmark
    exact ⟨fun h => (Option.some_ne_none c h.symm).elim, fun h => absurd h.1 hmark⟩

/-- An accepted image gives legal settings. -/
theorem judgeImage_legal {img : List Byte} {c : Settings} (h : judgeImage img = some c) :
    c.InRange ∧ c.consistent = true := by
  obtain ⟨-, hread, hcons⟩ := judgeImage_eq_some.mp h
  obtain ⟨hr, hg⟩ := readSettings_given hread
  exact ⟨ImageGives.inRange hr hg, hcons⟩

/-- Settles O7: the image's reader accepts exactly the images in range, and gives what their bytes name; the rest is
the mark, the check and R198. -/
theorem imageIsAcceptedExactlyWhenRight : Obligations.ImageIsAcceptedExactlyWhenRight := by
  intro img
  refine ⟨fun c h => ?_, fun hmark hcheck hrange => ?_⟩
  · obtain ⟨⟨hmark, hcheck⟩, hread, hcons⟩ := judgeImage_eq_some.mp h
    obtain ⟨hr, hg⟩ := readSettings_given hread
    exact ⟨hmark, hcheck, hr, hg, c.consistent_iff.mp hcons, ImageGives.inRange hr hg⟩
  · obtain ⟨c, hread⟩ := readSettings_isSome hrange
    refine ⟨c, (readSettings_given hread).2, fun hcons => ?_, fun hcons => ?_⟩
    · exact judgeImage_eq_some.mpr ⟨⟨hmark, hcheck⟩, hread, c.consistent_iff.mpr hcons⟩
    · rw [Option.eq_none_iff_forall_ne_some]
      intro d hd
      obtain ⟨-, hread', hcons'⟩ := judgeImage_eq_some.mp hd
      obtain rfl : c = d := Option.some.inj (hread.symm.trans hread')
      exact hcons (c.consistent_iff.mp hcons')

end Sys2Proof.Machine

/-! The lists without doubles (sections 4.3 and 10.3), this station's own roster record (section 3.5) and the bounds of
the effort (sections 6.7 to 6.9 and 8.6), change by change; an acceptance is where the settings come in. -/

namespace Sys2Proof.Machine

/-! ## The pending list -/

theorem joinList_nodup {list : List PendingRequest} (r : PendingRequest) (h : (list.map (·.input)).Nodup) :
    ((joinList list r).map (·.input)).Nodup := by
  unfold joinList; split
  · exact h
  · rename_i hany
    rw [List.map_append, List.nodup_append]
    refine ⟨h, List.nodup_singleton _, fun a ha b hb => ?_⟩
    obtain ⟨x, hx, rfl⟩ := List.mem_map.mp ha
    rw [List.map_singleton, List.mem_singleton] at hb
    rintro heq
    exact hany (List.any_eq_true.mpr ⟨x, hx, decide_eq_true (heq.trans hb)⟩)

theorem Change.keeps_onePerInput {s t : State} (h : Change s t) (hs : s.req.OnePerInput) : t.req.OnePerInput := by
  cases h
  case join r => exact joinList_nodup r hs
  case refuse => exact hs
  case inputs => exact hs
  case query => exact hs
  case clean c f _ => exact hs.sublist (List.filter_sublist.map _)
  case reset => exact List.nodup_nil
  all_goals simpa using hs

/-! ## The outbox -/

/-- An outbox whose tags are some of the tags before, in their order, is legal as before. -/
theorem State.OutboxLegal.of_sublist {s t : State} (h : s.OutboxLegal) (hset : t.settings = s.settings)
    (htags : (t.pub.outbox.map (·.tag)).Sublist (s.pub.outbox.map (·.tag))) : t.OutboxLegal := by
  refine ⟨h.1.sublist htags, fun e he => ?_⟩
  obtain ⟨d, hd, htag⟩ := List.mem_map.mp (htags.mem (List.mem_map_of_mem (f := (·.tag)) he))
  obtain ⟨c, i, p, hc, hp, hpd⟩ := h.2 d hd
  exact ⟨c, i, p, hset.trans hc, hp, hpd.trans htag⟩

theorem State.OutboxLegal.congr {s t : State} (h : s.OutboxLegal) (hset : t.settings = s.settings)
    (hout : t.pub.outbox = s.pub.outbox) : t.OutboxLegal :=
  h.of_sublist hset (by rw [hout])

/-- Without settings the outbox is empty. -/
theorem State.OutboxLegal.eq_nil {s : State} (h : s.OutboxLegal) (hset : s.settings = none) : s.pub.outbox = [] := by
  refine List.eq_nil_iff_forall_not_mem.mpr fun e he => ?_
  obtain ⟨c, -, -, hc, -⟩ := h.2 e he
  exact Option.some_ne_none c (hc.symm.trans hset)

theorem map_tag_replace (r : OutboxRequest) (l : List OutboxEntry) :
    (l.map fun e => if e.tag == r.tag then e.replace r else e).map (·.tag) = l.map (·.tag) := by
  rw [List.map_map]
  refine List.map_congr_left fun e _ => ?_
  simp only [Function.comp_apply]; split <;> rfl

theorem markTaken_tags (k : Nat) (l : List OutboxEntry) : (markTaken k l).map (·.tag) = l.map (·.tag) := by
  rw [markTaken, List.map_append, List.map_map]
  conv_rhs => rw [← List.take_append_drop k l, List.map_append]
  rfl

theorem releaseEntries_tags (l : List OutboxEntry) :
    ((releaseEntries l).map (·.tag)).Sublist (l.map (·.tag)) := by
  rw [releaseEntries, List.map_map]
  exact List.filter_sublist.map _

theorem takeRequest_outboxLegal {s : State} {c : Settings} {i : Fin 8} {e : PublishEntry} {r : OutboxRequest}
    (hs : s.OutboxLegal) (hc : s.settings = some c) (he : c.entryAt i = some e) (ht : r.tag = e.tag) :
    (s.setPub (s.pub.takeRequest c r)).OutboxLegal := by
  by_cases hheld : ∃ d ∈ s.pub.outbox, d.tag = r.tag
  · refine hs.of_sublist rfl ?_
    rw [State.pub_setPub, s.pub.takeRequest_of_held c r hheld, map_tag_replace]
  · have hnew : ∀ d ∈ s.pub.outbox, d.tag ≠ r.tag := fun d hd htag => hheld ⟨d, hd, htag⟩
    rw [s.pub.takeRequest_of_new c r hnew]
    refine ⟨?_, fun d hd => ?_⟩
    · show ((s.pub.outbox ++ [r.entry]).map (·.tag)).Nodup
      rw [List.map_append, List.nodup_append]
      refine ⟨hs.1, List.nodup_singleton _, fun a ha b hb => ?_⟩
      obtain ⟨x, hx, rfl⟩ := List.mem_map.mp ha
      rw [List.map_singleton, List.mem_singleton] at hb
      exact fun heq => hnew x hx (heq.trans hb)
    · rcases List.mem_append.mp hd with hd | hd
      · exact hs.2 d hd
      · rw [List.mem_singleton.mp hd]; exact ⟨c, i, e, hc, he, ht.symm⟩

theorem Change.keeps_outboxLegal {s t : State} (h : Change s t) (ha : s.PhasesAgree) (hs : s.OutboxLegal) :
    t.OutboxLegal := by
  cases h
  case outbox c i e r hc he ht => exact takeRequest_outboxLegal hs hc he ht
  case frame c k _ _ =>
    refine hs.of_sublist (by simp) ?_
    rw [startFrame_pub]; split
    · exact (List.Sublist.refl _).trans (by rw [← markTaken_tags (s.entriesTaken c) s.pub.outbox]; rfl)
    · rfl
  case collided f _ =>
    refine hs.of_sublist (by simp) ?_
    simp [collidedEnd, Publisher.releaseCollided, Function.comp_def]
  case clean c f _ => exact hs.of_sublist (by simp) (releaseEntries_tags _)
  case accept c image hst _ =>
    have hnil := hs.eq_nil (ha.of_stage (.inl hst)).2.1
    refine ⟨by simp [hnil], fun e he => ?_⟩
    simp [hnil] at he
  case reset => exact ⟨List.nodup_nil, fun e he => absurd he List.not_mem_nil⟩
  case adopt c f _ _ => exact hs.congr (by simp) rfl
  case quietLimit c _ _ => exact hs.congr (by simp) rfl
  case entry => exact hs.congr rfl rfl
  case beat => exact hs.congr rfl rfl
  all_goals exact hs.congr (by simp) (by simp)

/-- Settles O57, by the small changes; the outbox with the agreement of the phases, by which it is empty before
acceptance. -/
theorem stepKeepsTheListsWithoutDoubles : Obligations.StepKeepsTheListsWithoutDoubles := fun _ _ h =>
  ⟨keeps_step (·.req.OnePerInput) (fun _ _ hs => hs) (fun _ _ => Change.keeps_onePerInput) h, fun ha hs =>
    (keeps_step (fun u => u.PhasesAgree ∧ u.OutboxLegal) (fun _ _ hs => hs)
      (fun _ _ hc hs => ⟨hc.keeps_phasesAgree hs.1, hc.keeps_outboxLegal hs.1 hs.2⟩) h ⟨ha, hs⟩).2⟩

/-! ## The station's own record -/

/-- The two cases of `OwnRecordUntouched`, without its match. -/
theorem State.ownRecordUntouched_iff (s : State) : s.OwnRecordUntouched ↔
    (s.settings = none → s.rx.roster = Vector.replicate 32 StationRecord.reset) ∧
    ∀ c, s.settings = some c → s.rx.roster.get (stationIndex c.station) = StationRecord.reset := by
  unfold State.OwnRecordUntouched
  cases hs : s.settings with
  | none => simp
  | some c => simp [Reception.recordOf]

theorem State.OwnRecordUntouched.congr {s t : State} (h : s.OwnRecordUntouched) (hset : t.settings = s.settings)
    (hroster : t.rx.roster = s.rx.roster) : t.OwnRecordUntouched := by
  rw [State.ownRecordUntouched_iff] at *; rw [hset, hroster]; exact h

theorem vector_ext_get {α : Type} {n : Nat} {v w : Vector α n} (h : ∀ i, v.get i = w.get i) : v = w :=
  Vector.ext fun i hi => h ⟨i, hi⟩

theorem stationIndex_inj {a b : Station} (h : stationIndex a = stationIndex b) : a = b :=
  BitVec.toFin_inj.mp h

theorem Change.keeps_ownRecordUntouched {s t : State} (h : Change s t) (ha : s.PhasesAgree)
    (hs : s.OwnRecordUntouched) : t.OwnRecordUntouched := by
  cases h
  case expire v hv =>
    rw [State.ownRecordUntouched_iff] at *
    obtain ⟨hnone, hsome⟩ := hs
    have keep (j : Fin 32) (hj : s.rx.roster.get j = StationRecord.reset) : v.get j = StationRecord.reset := by
      rcases hv j with h | h <;> rw [h, hj]; rfl
    refine ⟨fun hset => vector_ext_get fun j => ?_, fun c hset => keep _ (hsome c hset)⟩
    simpa using keep j (by simp [hnone hset])
  case record c sender x hset hsender _ =>
    rw [State.ownRecordUntouched_iff] at *
    simp only [State.settings_setRx, State.rx_setRx, Reception.setRecord, hset, reduceCtorEq, false_implies, true_and,
      Option.some.injEq] at hs ⊢
    rintro d rfl
    rw [get_putAt, if_neg fun h => hsender (stationIndex_inj h).symm]
    exact hs c rfl
  case accept c image hst _ =>
    rw [State.ownRecordUntouched_iff] at *
    refine ⟨fun hnone => absurd hnone (by simp), fun d _ => ?_⟩
    simp [hs.1 (ha.of_stage (.inl hst)).2.1]
  case reset => rfl
  case corrupted => exact hs.congr rfl rfl
  case bucket => exact hs.congr rfl rfl
  case arrival => exact hs.congr rfl rfl
  all_goals exact hs.congr (by simp) (by simp)

/-- Settles O58, by the small changes. -/
theorem stepKeepsTheOwnRecordUntouched : Obligations.StepKeepsTheOwnRecordUntouched := fun _ _ h ha hs =>
  (keeps_step (fun u => u.PhasesAgree ∧ u.OwnRecordUntouched) (fun _ _ hs => hs)
    (fun _ _ hc hs => ⟨hc.keeps_phasesAgree hs.1, hc.keeps_ownRecordUntouched hs.1 hs.2⟩) h ⟨ha, hs⟩).2

/-! ## The settings and the effort -/

theorem Change.keeps_settingsLegal {s t : State} (h : Change s t) (hs : s.SettingsLegal) : t.SettingsLegal := by
  cases h
  case accept c image _ hjudged =>
    intro d hd
    obtain rfl : c = d := Option.some.inj hd
    exact judgeImage_legal hjudged
  case reset => exact fun c hc => absurd hc (by simp [State.reset])
  all_goals exact fun c hc => hs c (by simpa using hc)

/-- The bounds of the effort under the settings in force, if any. -/
def EffortWithin (c : Option Settings) (m : MixUnit) (pending : Option DriveSetting) : Prop :=
  match c with
  | none => m.effort = 0 ∧ m.prior = 0 ∧ m.integral = 0 ∧ pending = none
  | some c => within c.effortLimit m.effort ∧ within c.effortLimit m.prior ∧
      within (c.integralLimit * 1024) m.integral ∧ ∀ x, pending = some x → within c.effortLimit x.effort

theorem State.effortBounded_iff (s : State) : s.EffortBounded ↔
    EffortWithin s.settings s.mix s.drive.pendingSetting ∧ s.drive.duty ≤ Config.fullDuty := Iff.rfl

/-- An integral set to 0 and a pending setting given up stay within the bounds. -/
theorem EffortWithin.cleared {c : Option Settings} {m : MixUnit} {p : Option DriveSetting} (h : EffortWithin c m p) :
    EffortWithin c { m with integral := 0 } none ∧ EffortWithin c m none := by
  cases c with
  | none => exact ⟨⟨h.1, h.2.1, rfl, rfl⟩, ⟨h.1, h.2.1, h.2.2.1, rfl⟩⟩
  | some c =>
    obtain ⟨heffort, hprior, hintegral, -⟩ := h
    have hzero : within (c.integralLimit * 1024) 0 := by constructor <;> omega
    exact ⟨⟨heffort, hprior, hzero, by simp⟩, ⟨heffort, hprior, hintegral, by simp⟩⟩

/-- A pending setting is that of settings in force, within their limit. -/
theorem EffortWithin.pending {c : Option Settings} {m : MixUnit} {x : DriveSetting} (h : EffortWithin c m (some x)) :
    ∃ d, c = some d ∧ within d.effortLimit x.effort := by
  cases c with
  | none => exact absurd h.2.2.2 (by simp)
  | some d => exact ⟨d, rfl, h.2.2.2 x rfl⟩

theorem State.EffortBounded.congr {s t : State} (h : s.EffortBounded) (hset : t.settings = s.settings)
    (hmix : t.mix = s.mix) (hp : t.drive.pendingSetting = s.drive.pendingSetting) (hd : t.drive.duty = s.drive.duty) :
    t.EffortBounded := by
  rw [State.effortBounded_iff] at *; rw [hset, hmix, hp, hd]; exact h

/-- The effort of an ACTIVE, HOLD or COAST drive, or 0: the duty that it gives is at most a full period's. -/
theorem dutyOf_le (c : Settings) (hc : c.InRange) (e : Int) (he : within c.effortLimit e) :
    dutyOf e ≤ Config.fullDuty := by
  obtain ⟨-, -, -, -, -, -, -, -, -, -, ⟨-, hlimit⟩, -⟩ := hc
  have : e.natAbs ≤ 32767 := by obtain ⟨h₁, h₂⟩ := he; omega
  unfold dutyOf
  simp only [Config.fullDuty]
  omega

/-- R148: the duty after a setting is applied is the duty before or that of the pending effort. -/
theorem DriveUnit.applySetting_duty (d : DriveUnit) : d.applySetting.duty = d.duty ∨
    ∃ x, d.pendingSetting = some x ∧ d.applySetting.duty = dutyOf x.effort := by
  unfold DriveUnit.applySetting; split
  · exact .inl rfl
  · rename_i x hx
    split
    · exact .inr ⟨x, hx, rfl⟩
    · exact .inl rfl

/-- R110, R112: the effort after a tick stays within the effort limit. -/
theorem MixUnit.afterTick_effort (c : Settings) (m : MixUnit) (v : LocalValues) (mask : BitVec 3) (se si : Int)
    (d : DriveState) : within c.effortLimit (m.afterTick c v mask se si d).effort := by
  have hclamp := clamp_mem (-c.effortLimit) c.effortLimit (rawEffort se) (by omega)
  simp only [MixUnit.afterTick]; split
  · exact ⟨by omega, by omega⟩
  · exact hclamp

/-- R114, R115: the integral after a tick stays within the integral limit. -/
theorem MixUnit.afterTick_integral (c : Settings) (m : MixUnit) (v : LocalValues) (mask : BitVec 3) (se si : Int)
    (d : DriveState) (h : within (c.integralLimit * 1024) m.integral) :
    within (c.integralLimit * 1024) (m.afterTick c v mask se si d).integral := by
  have hzero : within (c.integralLimit * 1024) 0 := by constructor <;> omega
  cases d
  case active =>
    simp only [MixUnit.afterTick, nextIntegral]; split
    · exact h
    · exact clamp_mem _ _ _ (by omega)
  case off => exact hzero
  case disarmed => exact hzero
  case hold => exact h
  case coast => exact h

theorem Change.keeps_effortBounded {s t : State} (h : Change s t) (ha : s.PhasesAgree) (hl : s.SettingsLegal)
    (hs : s.EffortBounded) : t.EffortBounded := by
  have hzero : 0 ≤ Config.fullDuty := Nat.zero_le _
  cases h
  case disarm => exact ⟨(EffortWithin.cleared hs.1).1, hzero⟩
  case coast => exact ⟨(EffortWithin.cleared hs.1).2, hzero⟩
  case period =>
    rw [State.effortBounded_iff] at *
    obtain ⟨hbounds, hduty⟩ := hs
    simp only [State.settings_setDrive, State.mix_setDrive, State.drive_setDrive, DriveUnit.beginPeriod_keeps,
      DriveUnit.applySetting_keeps]
    refine ⟨hbounds.cleared.2, ?_⟩
    rcases s.drive.applySetting_duty with h | ⟨x, hx, h⟩ <;> rw [h]
    · exact hduty
    · obtain ⟨c, hset, heffort⟩ := EffortWithin.pending (hx ▸ hbounds)
      exact dutyOf_le c (hl c hset).1 _ heffort
  case mix c v mask se si hset =>
    rw [State.effortBounded_iff] at *
    simp only [State.settings_setDrive, State.settings_setMix, State.mix_setDrive, State.mix_setMix,
      State.drive_setDrive, hset] at *
    obtain ⟨⟨heffort, -, hintegral, -⟩, hduty⟩ := hs
    have hnew := MixUnit.afterTick_effort c s.mix v mask se si s.drive.state
    refine ⟨⟨hnew, heffort, MixUnit.afterTick_integral c _ v mask se si _ hintegral, ?_⟩, hduty⟩
    rintro x hx
    cases hx
    exact hnew
  case accept c image hst _ =>
    have hnone := (ha.of_stage (.inl hst)).2.1
    rw [State.effortBounded_iff, hnone] at hs
    obtain ⟨⟨heffort, hprior, hintegral, -⟩, -⟩ := hs
    refine ⟨?_, hzero⟩
    simp only [accept_settings, accept_mix, accept_drive, heffort, hprior]
    refine ⟨?_, ?_, ?_, by simp [DriveUnit.idleIn]⟩ <;> constructor <;> simp
  case reset => exact ⟨⟨rfl, rfl, rfl, rfl⟩, hzero⟩
  all_goals exact hs.congr (by simp) (by simp) (by simp) (by simp)

/-- Settles O59, by the small changes. -/
theorem stepKeepsTheEffortBounded : Obligations.StepKeepsTheEffortBounded := fun _ _ h =>
  ⟨keeps_step State.SettingsLegal (fun _ _ hs => hs) (fun _ _ => Change.keeps_settingsLegal) h, fun ha hl hs =>
    (keeps_step (fun u => u.PhasesAgree ∧ u.SettingsLegal ∧ u.EffortBounded) (fun _ _ hs => hs)
      (fun _ _ hc ⟨ha, hl, hs⟩ => ⟨hc.keeps_phasesAgree ha, hc.keeps_settingsLegal hl, hc.keeps_effortBounded ha hl hs⟩)
      h ⟨ha, hl, hs⟩).2.2⟩

end Sys2Proof.Machine

/-! The counts and their ranges, block by block (O55): what each operation of a block does to its counts, then the
changes. -/

namespace Sys2Proof.Machine

/-- A saturating count stays at its limit or below. -/
theorem satAdd_le (limit n k : Nat) : satAdd limit n k ≤ limit := Nat.min_le_left _ _

/-! ## The bus controller -/

/-- The counts of a bus controller whose counts stand, and which is in BACKOFF only if it was before. -/
theorem BusController.CountsInRange.congr {b d : BusController} (h : b.CountsInRange)
    (hc : d.consecutive = b.consecutive ∨ d.consecutive = 0) (ht : d.collisionTotal = b.collisionTotal)
    (hq : d.quietWheels = b.quietWheels) (htx : d.tx = .backoff → b.tx = .backoff) : d.CountsInRange := by
  obtain ⟨h₁, h₂, h₃, h₄⟩ := h
  refine ⟨?_, by rwa [ht], by rwa [hq], fun hb => by rw [hq]; exact h₄ (htx hb)⟩
  rcases hc with hc | hc <;> rw [hc]
  · exact h₁
  · decide

theorem BusController.passDone_countsInRange {b : BusController} (h : b.CountsInRange) :
    b.passDone.CountsInRange := by
  obtain ⟨h₁, h₂, h₃, h₄⟩ := h
  unfold BusController.passDone; split
  · rename_i hb
    have hq : b.quietWheels + 1 ≤ Config.backoffPasses := h₄ hb
    refine ⟨h₁, h₂, hq, fun htx => ?_⟩
    by_contra hge
    rw [if_pos (Nat.le_of_not_lt hge)] at htx
    exact absurd htx (by simp)
  · exact ⟨h₁, h₂, h₃, h₄⟩

/-- The fourth collision in a row brings the count back to 0, and BACKOFF begins with no quiet wheel. -/
theorem collisionsJudged_countsInRange {s : State} (htotal : s.bus.collisionTotal ≤ Config.count16)
    (hq : s.bus.quietWheels ≤ Config.backoffPasses)
    (hb : s.bus.tx = .backoff → s.bus.quietWheels < Config.backoffPasses)
    (hc : s.bus.consecutive < Config.collisionLimit ∨ s.bus.tx = .ready) :
    (collisionsJudged s).bus.CountsInRange := by
  rw [collisionsJudged_bus]; split
  · exact ⟨Nat.zero_lt_succ _, htotal, Nat.zero_le _, fun _ => Nat.zero_lt_succ _⟩
  · rename_i hlimit
    refine ⟨?_, htotal, hq, hb⟩
    by_contra hge
    exact hlimit ⟨Nat.le_of_not_lt hge, .inl (hc.resolve_left hge)⟩

theorem Change.keeps_busCounts {s t : State} (h : Change s t) (hs : s.bus.CountsInRange) : t.bus.CountsInRange := by
  cases h
  case bus b h₁ h₂ h₃ h₄ => exact hs.congr (.inl h₂) h₃ h₄ fun h => h₁ ▸ h
  case pass => exact BusController.passDone_countsInRange hs
  case ready b _ h₁ h₂ h₃ h₄ => exact hs.congr (.inl h₂) h₃ h₄ fun h => absurd (h₁.symm.trans h) (by decide)
  case frame => exact hs.congr (.inl rfl) rfl rfl fun h => absurd h (by simp)
  case collided f _ =>
    exact collisionsJudged_countsInRange (satAdd_le _ _ _) hs.2.2.1 (fun h => absurd h (by simp [BusController.endFrame]))
      (.inr rfl)
  case clean => exact hs.congr (.inr rfl) rfl rfl fun h => absurd h (by simp [BusController.endFrame])
  case noCopy => exact hs.congr (.inl rfl) rfl rfl fun h => absurd h (by simp [BusController.endFrame])
  case judged => exact collisionsJudged_countsInRange hs.2.1 hs.2.2.1 hs.2.2.2 (.inl hs.1)
  case twin =>
    refine hs.congr (.inl rfl) rfl rfl fun h => ?_
    rw [twinFrame_bus] at h; dsimp only at h; split at h <;> cases h
  case adopt c f _ _ =>
    refine hs.congr (.inl rfl) rfl rfl fun h => ?_
    rw [adopt_bus] at h; dsimp only at h; split at h <;> cases h
  case quietLimit c _ _ =>
    rw [quietLimitTaken_bus]
    refine hs.congr (.inl rfl) rfl rfl fun h => ?_
    dsimp only at h; split at h <;> cases h
  case reset => exact (by decide : BusController.reset.CountsInRange)
  all_goals simpa using hs

/-! ## The time unit and the reception unit -/

theorem jump_countsInRange (c : Settings) (diff : Int) {s : State} (h : s.time.CountsInRange) :
    (jump c diff s).time.CountsInRange := by
  obtain ⟨h₁, h₂, h₃⟩ := h
  unfold jump; dsimp only; split
  · exact ⟨h₁, satAdd_le _ _ _, h₃⟩
  · split
    · exact ⟨h₁, h₂, satAdd_le _ _ _⟩
    · exact ⟨h₁, h₂, h₃⟩

theorem Change.keeps_timeCounts {s t : State} (h : Change s t) (hs : s.time.CountsInRange) : t.time.CountsInRange := by
  cases h
  case advance us => simpa only [TimeUnit.CountsInRange, advance_time] using hs
  case lockTimer hlt => exact ⟨hlt, hs.2⟩
  case jump c diff _ => exact jump_countsInRange c diff hs
  case agree => exact ⟨Nat.zero_le _, hs.2⟩
  case adopt => exact ⟨Nat.zero_le _, hs.2⟩
  case quietLimit => rw [quietLimitTaken_time]; exact ⟨Nat.zero_le _, hs.2⟩
  case reset => exact ⟨Nat.zero_le _, Nat.zero_le _, Nat.zero_le _⟩
  all_goals simpa using hs

theorem Reception.leakJudged_countsInRange {r : Reception} (hb : r.noiseBucket ≤ Config.bucketFull)
    (hc : r.corrupted ≤ Config.count16)
    (hm : ∀ j, (r.roster.get j).missed ≤ Config.count8) : r.leakJudged.CountsInRange := by
  unfold Reception.leakJudged; split
  · exact ⟨(Nat.sub_le _ _).trans hb, Nat.zero_lt_succ _, hc, hm⟩
  · exact ⟨hb, by omega, hc, hm⟩

theorem Change.keeps_rxCounts {s t : State} (h : Change s t) (hs : s.rx.CountsInRange) : t.rx.CountsInRange := by
  obtain ⟨hb, hl, hc, hm⟩ := hs
  have hs : s.rx.CountsInRange := ⟨hb, hl, hc, hm⟩
  cases h
  case clear => exact ⟨Nat.zero_le _, hl, hc, hm⟩
  case corrupted => exact ⟨hb, hl, satAdd_le _ _ _, hm⟩
  case bucket hlt => exact ⟨hlt, hl, hc, hm⟩
  case leakTick => exact Reception.leakJudged_countsInRange hb hc hm
  case leak => exact Reception.leakJudged_countsInRange hb hc hm
  case arrival => exact hs
  case expire v hv =>
    refine ⟨hb, hl, hc, fun j => ?_⟩
    show (v.get j).missed ≤ Config.count8
    rcases hv j with h | h <;> rw [h] <;> exact hm j
  case record c sender x _ _ hx =>
    simp only [State.rx_setRx, Reception.setRecord, Reception.CountsInRange]
    refine ⟨hb, hl, hc, fun j => ?_⟩
    rw [get_putAt]; split
    · exact hx.elim (fun h => h ▸ hm _) id
    · exact hm j
  case reset =>
    refine ⟨Nat.zero_le _, Nat.zero_lt_succ _, Nat.zero_le _, fun j => ?_⟩
    simp [State.reset, Reception.reset, StationRecord.reset]
  all_goals simpa using hs

/-! ## The test unit -/

theorem TestUnit.countErrors_countsInRange (n : Nat) {t : TestUnit} (h : t.CountsInRange) :
    (t.countErrors n).CountsInRange := by
  obtain ⟨h₁, h₂, h₃, -, -⟩ := h
  simp only [TestUnit.CountsInRange, TestUnit.countErrors_keeps]
  exact ⟨h₁, h₂, h₃, satAdd_le _ _ _, satAdd_le _ _ _⟩

theorem TestUnit.finish_countsInRange {t : TestUnit} (h : t.CountsInRange) : t.finish.CountsInRange := by
  obtain ⟨h₁, h₂, h₃, h₄, -⟩ := h
  exact ⟨h₁, h₂, h₃, h₄, Nat.zero_le _⟩

theorem nextIndex_range {i : Nat} (h : i ≤ Config.maxTestIndex) :
    1 ≤ nextIndex i ∧ nextIndex i ≤ Config.maxTestIndex := by
  simp only [nextIndex, Config.maxTestIndex] at *; split <;> omega

theorem TestUnit.quietJudged_countsInRange {t : TestUnit} (h : t.CountsInRange) : t.quietJudged.CountsInRange := by
  unfold TestUnit.quietJudged; split
  · exact finish_countsInRange (countErrors_countsInRange 1 h)
  · exact h

theorem TestUnit.judgeBlock_countsInRange (b : TestBlock) {t : TestUnit} (h : t.CountsInRange) :
    (t.judgeBlock b).CountsInRange := by
  unfold TestUnit.judgeBlock; dsimp only; split
  · exact countErrors_countsInRange 1 h
  · have hi : b.index.toNat ≤ Config.maxTestIndex := Nat.le_of_lt_succ b.index.isLt
    exact ⟨(nextIndex_range hi).1, (nextIndex_range hi).2, (countErrors_countsInRange _ h).2.2⟩

theorem TestUnit.takeBlock_countsInRange (sender : Station) (b : TestBlock) {t : TestUnit} (h : t.CountsInRange) :
    (t.takeBlock sender b).CountsInRange := by
  have hj : (({ t with quiet := 0 } : TestUnit).judgeBlock b).CountsInRange :=
    judgeBlock_countsInRange b ⟨h.1, h.2.1, Nat.zero_le _, h.2.2.2⟩
  unfold TestUnit.takeBlock; dsimp only; split
  · split
    · exact finish_countsInRange hj
    · exact hj
  · exact h

theorem TestUnit.tick_countsInRange {t : TestUnit} (h : t.CountsInRange) : t.tick.CountsInRange := by
  unfold TestUnit.tick; split
  · exact h
  · exact quietJudged_countsInRange ⟨h.1, h.2.1, satAdd_le _ _ _, h.2.2.2⟩
  all_goals exact h

theorem TestUnit.endHalf_countsInRange {t : TestUnit} (h : t.CountsInRange) : t.endHalf.CountsInRange := by
  unfold TestUnit.endHalf; split
  · exact ⟨h.1, h.2.1, h.2.2.1, h.2.2.2.1, (Nat.sub_le _ _).trans h.2.2.2.2⟩
  · simpa only [TestUnit.CountsInRange, TestUnit.startPulse_keeps] using h
  · exact h

theorem TestUnit.sentClean_countsInRange (last : Bool) {t : TestUnit} (h : t.CountsInRange) :
    (t.sentClean last).CountsInRange := by
  unfold TestUnit.sentClean; split
  · exact h
  · split
    · exact finish_countsInRange h
    · exact ⟨(nextIndex_range h.2.1).1, (nextIndex_range h.2.1).2, h.2.2⟩

theorem Change.keeps_testCounts {s t : State} (h : Change s t) (hs : s.test.CountsInRange) : t.test.CountsInRange := by
  cases h
  case collided f _ =>
    rw [collidedEnd, (collisionsJudged_frame _).2.2.2.2.2.2.2.2.2.2.2.1, collidedItems_test]
    rw [TestUnit.sentCollided, ← ite_and]
    split
    · exact TestUnit.countErrors_countsInRange 1 hs
    · exact hs
  case clean c f _ =>
    rw [releaseCarried_test]; split
    · exact TestUnit.sentClean_countsInRange _ hs
    · exact hs
  case sendTick => exact TestUnit.tick_countsInRange hs
  case testBlock => exact TestUnit.takeBlock_countsInRange _ _ hs
  case testCorrupted =>
    rw [State.test_setTest, TestUnit.corruptedFrame]; split
    · exact TestUnit.countErrors_countsInRange 1 hs
    · exact hs
  case testStart => exact ⟨le_rfl, Nat.succ_le_succ (Nat.zero_le _), Nat.zero_le _, Nat.zero_le _, Nat.zero_le _⟩
  case testEnd => exact TestUnit.finish_countsInRange hs
  case testQuiet => exact TestUnit.quietJudged_countsInRange hs
  case pulse => exact TestUnit.endHalf_countsInRange hs
  case reset => exact (by decide : TestUnit.reset.CountsInRange)
  all_goals simpa using hs

/-! ## The single counts -/

theorem Publisher.takeRequest_coalesces_le (c : Settings) (r : OutboxRequest) {p : Publisher}
    (h : p.coalesces ≤ Config.count16) : (p.takeRequest c r).coalesces ≤ Config.count16 := by
  by_cases hheld : ∃ e ∈ p.outbox, e.tag = r.tag
  · rw [p.takeRequest_of_held c r hheld]; exact satAdd_le _ _ _
  · rwa [p.takeRequest_of_new c r fun e he htag => hheld ⟨e, he, htag⟩]

theorem Change.keeps_coalesces {s t : State} (h : Change s t) (hs : s.pub.coalesces ≤ Config.count16) :
    t.pub.coalesces ≤ Config.count16 := by
  cases h
  case outbox c i e r _ _ _ => exact Publisher.takeRequest_coalesces_le c r hs
  case frame c k _ _ => rw [startFrame_pub]; split <;> exact hs
  case collided f _ => rw [collidedEnd, (collisionsJudged_frame _).2.2.2.2.2.1]; exact hs
  case clean => exact hs
  case adopt => exact hs
  case quietLimit => exact hs
  case entry => exact hs
  case beat => exact hs
  case reset => exact Nat.zero_le _
  all_goals simpa using hs

theorem nextSatRun_le (c : Settings) (run : Nat) (engaged : Bool) : nextSatRun c run engaged ≤ Config.count8 := by
  unfold nextSatRun; split
  · exact Nat.zero_le _
  · exact satAdd_le _ _ _

theorem Change.keeps_satRun {s t : State} (h : Change s t) (hs : s.mix.satRun ≤ Config.count8) :
    t.mix.satRun ≤ Config.count8 := by
  cases h
  case mix => exact nextSatRun_le _ _ _
  case disarm => exact hs
  case accept => exact hs
  case reset => exact Nat.zero_le _
  all_goals simpa using hs

theorem Change.keeps_failureRun {s t : State} (h : Change s t) (hs : s.meas.failureRun ≤ Config.count8) :
    t.meas.failureRun ≤ Config.count8 := by
  cases h
  case meas m hm _ =>
    rw [State.meas_setMeas]
    rcases hm with h | h | h <;> rw [h]
    · exact Nat.zero_le _
    · exact hs
    · exact satAdd_le _ _ _
  case reset => exact Nat.zero_le _
  all_goals simpa using hs

theorem Change.keeps_refused {s t : State} (h : Change s t) (hs : s.req.refused ≤ Config.count8) :
    t.req.refused ≤ Config.count8 := by
  cases h
  case refuse => exact satAdd_le _ _ _
  case query => exact hs
  case reset => exact Nat.zero_le _
  all_goals simpa using hs

theorem Change.keeps_loaderCounts {s t : State} (h : Change s t)
    (hs : s.loader.attempts ≤ Config.maxRetries ∧ s.loader.listenQuiet ≤ Config.quietLimit) :
    t.loader.attempts ≤ Config.maxRetries ∧ t.loader.listenQuiet ≤ Config.quietLimit := by
  have hquiet (us : Nat) : (s.advance us).loader.listenQuiet ≤ Config.quietLimit := by
    rw [advance_loader_eq, Loader.count]; split
    · exact satAdd_le _ _ _
    · exact hs.2
  cases h
  case advance us => exact ⟨by simpa using hs.1, hquiet us⟩
  case quietLimit c _ _ => rw [quietLimitTaken_loader]; exact ⟨by simpa using hs.1, hquiet _⟩
  case notQuiet => exact ⟨hs.1, Nat.zero_le _⟩
  case attempt l _ _ _ h₃ h₄ =>
    refine ⟨?_, h₄ ▸ hs.2⟩
    rcases h₃ with h | ⟨hlt, h⟩
    · exact h ▸ hs.1
    · exact h ▸ hlt
  case accept => exact ⟨hs.1, Nat.zero_le _⟩
  case reject => exact hs
  case release n _ => exact ⟨Nat.zero_le _, hs.2⟩
  case adopt => exact hs
  case reset => exact ⟨Nat.zero_le _, Nat.zero_le _⟩
  all_goals simpa using hs

theorem Change.keeps_countsInRange {s t : State} (h : Change s t) (hs : s.CountsInRange) : t.CountsInRange := by
  obtain ⟨hbus, htime, hrx, htest, hcoal, hsat, hfail, hrefused, hloader⟩ := hs
  exact ⟨h.keeps_busCounts hbus, h.keeps_timeCounts htime, h.keeps_rxCounts hrx, h.keeps_testCounts htest,
    h.keeps_coalesces hcoal, h.keeps_satRun hsat, h.keeps_failureRun hfail, h.keeps_refused hrefused,
    h.keeps_loaderCounts hloader⟩

end Sys2Proof.Machine

/-! The publisher's ranges (O55): the beat timer at most at its interval, and each accumulator below its step, which the
consistency of legal settings holds at 4 or more. -/

namespace Sys2Proof.Machine

/-- The two cases of `PublisherInRange`, without its match. -/
theorem State.publisherInRange_iff (s : State) : s.PublisherInRange ↔
    (s.settings = none → s.pub.beatTimer = 0 ∧ ∀ i, (s.pub.entries.get i).acc = 0) ∧
    ∀ c, s.settings = some c → s.pub.beatTimer ≤ c.beatInterval ∧
      ∀ i e, c.entryAt i = some e → (s.pub.entries.get i).acc < e.step := by
  unfold State.PublisherInRange
  cases hs : s.settings with
  | none => simp
  | some c => simp

theorem State.PublisherInRange.congr {s t : State} (h : s.PublisherInRange) (hset : t.settings = s.settings)
    (hentries : t.pub.entries = s.pub.entries) (hbeat : t.pub.beatTimer = s.pub.beatTimer ∨ t.pub.beatTimer = 0) :
    t.PublisherInRange := by
  rw [State.publisherInRange_iff] at *
  rw [hset, hentries]
  refine ⟨fun hnone => ⟨?_, (h.1 hnone).2⟩, fun c hc => ⟨?_, (h.2 c hc).2⟩⟩
  · exact hbeat.elim (fun h' => h'.trans (h.1 hnone).1) id
  · exact hbeat.elim (fun h' => h'.trans_le (h.2 c hc).1) fun h' => h'.trans_le (Nat.zero_le _)

/-- With the settings in force named, the second case alone is left. -/
theorem State.publisherInRange_of_settings {s : State} {c : Settings} (hset : s.settings = some c) :
    s.PublisherInRange ↔ s.pub.beatTimer ≤ c.beatInterval ∧
      ∀ i e, c.entryAt i = some e → (s.pub.entries.get i).acc < e.step := by
  rw [State.publisherInRange_iff, hset]; simp

/-- An entry at a place is one of the publish table, enabled. -/
theorem Settings.entryAt_mem {c : Settings} {i : Fin 8} {e : PublishEntry} (h : c.entryAt i = some e) :
    e ∈ c.publish ∧ e.enabled = true := by
  unfold Settings.entryAt at h
  split at h
  · rename_i d hd
    split at h
    · cases h; exact ⟨List.mem_of_getElem? hd, by assumption⟩
    · cases h
  · cases h

/-- R54, R198: the step of an enabled entry of legal settings is a whole tick or more. -/
theorem four_le_step {c : Settings} (hr : c.InRange) (hc : c.consistent = true) {i : Fin 8} {e : PublishEntry}
    (h : c.entryAt i = some e) : 4 ≤ e.step := by
  obtain ⟨hmem, hen⟩ := Settings.entryAt_mem h
  obtain ⟨-, -, -, -, -, -, -, -, hentries, -⟩ := hr
  obtain ⟨-, -, -, -, hburst, -⟩ := c.consistent_iff.mp hc
  obtain ⟨hint, -, hb, -⟩ := hentries e hmem
  rw [PublishEntry.step]
  rcases hb with hb | hb | hb <;> rcases hburst e hmem hen with h1 | hmod <;> rw [hb] at * <;> omega

theorem entry_keeps_publisherInRange {s : State} {c : Settings} {i : Fin 8} {e : PublishEntry} {x : PublishState}
    (hset : s.settings = some c) (he : c.entryAt i = some e) (hstep : 4 ≤ e.step)
    (hx : x.acc = (s.pub.entries.get i).acc ∨ x.acc < e.step ∨ x.acc + e.step = (s.pub.entries.get i).acc ∨
      x.acc + e.step = (s.pub.entries.get i).acc + 4) (hs : s.PublisherInRange) :
    (s.setPub (s.pub.setEntry i x)).PublisherInRange := by
  rw [State.publisherInRange_of_settings hset] at hs
  rw [State.publisherInRange_of_settings (c := c) (by simpa using hset)]
  obtain ⟨hbeat, hacc⟩ := hs
  refine ⟨hbeat, fun j d hd => ?_⟩
  rw [State.pub_setPub, Publisher.setEntry, get_putAt]
  split
  · rename_i hj; subst hj
    obtain rfl : e = d := Option.some.inj (he.symm.trans hd)
    have := hacc j e he
    omega
  · exact hacc j d hd

/-- R54: at the entry to RUN each accumulator is its start phase modulo its step. -/
theorem startEntry_acc_lt {c : Settings} {i : Fin 8} {e : PublishEntry} (he : c.entryAt i = some e)
    (hstep : 4 ≤ e.step) (x : PublishState) : (startEntry c i x).acc < e.step := by
  simp only [startEntry, he]
  exact Nat.mod_lt _ (by omega)

/-- The entry to RUN puts every accumulator below its step. -/
theorem enterRun_publisherInRange {s t : State} {c : Settings} (hset : s.settings = some c)
    (hlegal : c.InRange ∧ c.consistent = true) (hs : s.PublisherInRange) (ht : t.settings = s.settings)
    (hpub : t.pub = s.pub.enterRun c) : t.PublisherInRange := by
  rw [State.publisherInRange_of_settings hset] at hs
  rw [State.publisherInRange_of_settings (ht.trans hset), hpub]
  refine ⟨hs.1, fun i e he => ?_⟩
  rw [Publisher.enterRun, get_mapAt]
  exact startEntry_acc_lt he (four_le_step hlegal.1 hlegal.2 he) _

theorem Change.keeps_publisherInRange {s t : State} (h : Change s t) (ha : s.PhasesAgree) (hl : s.SettingsLegal)
    (hs : s.PublisherInRange) : t.PublisherInRange := by
  cases h
  case entry c i e x hset he hx =>
    obtain ⟨hr, hc⟩ := hl c hset
    exact entry_keeps_publisherInRange hset he (four_le_step hr hc he) hx hs
  case outbox c i e r _ _ _ =>
    refine hs.congr rfl (by simp) (.inl ?_)
    by_cases hheld : ∃ d ∈ s.pub.outbox, d.tag = r.tag
    · rw [State.pub_setPub, s.pub.takeRequest_of_held c r hheld]
    · rw [State.pub_setPub, s.pub.takeRequest_of_new c r fun d hd htag => hheld ⟨d, hd, htag⟩]
  case beat c n due hset hn =>
    rw [State.publisherInRange_of_settings hset] at hs
    rw [State.publisherInRange_of_settings (c := c) (by simpa using hset)]
    exact ⟨hn.elim (fun h => h ▸ hs.1) id, hs.2⟩
  case frame c k _ _ =>
    refine hs.congr (by simp) ?_ (.inr ?_) <;> rw [startFrame_pub]
    · split <;> rfl
    · rfl
  case collided f _ =>
    refine hs.congr ?_ ?_ (.inl ?_)
    · simp
    · simp [collidedEnd, Publisher.releaseCollided]
    · simp [collidedEnd, Publisher.releaseCollided]
  case clean => exact hs.congr (by simp) rfl (.inl rfl)
  case adopt c f hset _ => exact enterRun_publisherInRange hset (hl c hset) hs (adopt_frame c f s).2.1 (adopt_pub s c f)
  case quietLimit c hset _ =>
    exact enterRun_publisherInRange hset (hl c hset) hs (quietLimitTaken_frame c s).2.1 (quietLimitTaken_pub s c)
  case accept c image hst hjudged =>
    obtain ⟨hr, hc⟩ := judgeImage_legal hjudged
    obtain ⟨hbeat, hacc⟩ := ((State.publisherInRange_iff s).mp hs).1 (ha.of_stage (.inl hst)).2.1
    rw [State.publisherInRange_of_settings (accept_settings s c)]
    refine ⟨by simp [hbeat], fun i e he => ?_⟩
    have := four_le_step hr hc he
    have hpub : (Machine.accept c s).pub = s.pub := by simp
    rw [hpub, hacc i]; omega
  case reset => exact ⟨rfl, fun i => by simp [State.reset, Publisher.reset]⟩
  all_goals refine hs.congr ?_ ?_ (.inl ?_) <;> simp

/-- Settles O55, by the small changes; the publisher's ranges with the agreement of the phases and the legality of the
settings, which hold its steps up. -/
theorem stepKeepsTheCountsInRange : Obligations.StepKeepsTheCountsInRange := fun _ _ h =>
  ⟨keeps_step State.CountsInRange (fun _ _ hs => hs) (fun _ _ => Change.keeps_countsInRange) h, fun ha hl hs =>
    (keeps_step (fun u => u.PhasesAgree ∧ u.SettingsLegal ∧ u.PublisherInRange) (fun _ _ hs => hs)
      (fun _ _ hc ⟨ha, hl, hs⟩ =>
        ⟨hc.keeps_phasesAgree ha, hc.keeps_settingsLegal hl, hc.keeps_publisherInRange ha hl hs⟩)
      h ⟨ha, hl, hs⟩).2.2⟩

end Sys2Proof.Machine

/-! The listen slots (sections 5.1 to 5.3): what taking a record, a tick and a CLEAR keep of a slot, and why the stamps
of a ring rise. Before a bound, later stamps are nearer to it, so that a ring without some of its samples still rises. -/

namespace Sys2Proof.Machine

/-! ## Legal slots -/

theorem appendSample_length {ring : List Sample} (x : Sample) (h : ring.length ≤ Config.ringSize) :
    (appendSample ring x).length ≤ Config.ringSize := by
  unfold appendSample
  simp only [Config.ringSize] at *
  split <;> simp only [List.length_append, List.length_singleton, List.length_tail] <;> omega

@[simp] theorem takeSample_state (bound : Stamp) (sender : Station) (slot : Slot) (x : Sample) :
    (slot.takeSample bound sender x).state = slot.state := by
  unfold Slot.takeSample; (repeat' split) <;> rfl

theorem takeSample_legal (bound : Stamp) (sender : Station) {slot : Slot} (x : Sample) (hstate : slot.state ≠ .clash)
    (h : slot.Legal) : (slot.takeSample bound sender x).Legal := by
  obtain ⟨hlen, hpub, hclash, hne, hlate, hfuture⟩ := h
  unfold Slot.takeSample; split
  · exact ⟨hlen, hpub, hclash, hne, hlate, satAdd_le _ _ _⟩
  · split
    · exact ⟨hlen, hpub, hclash, hne, satAdd_le _ _ _, hfuture⟩
    · exact ⟨appendSample_length x hlen, fun _ => by simp, fun h => absurd h hstate, fun _ => by simp [appendSample],
        hlate, hfuture⟩

theorem takeSamples_legal (bound : Stamp) (sender : Station) (samples : List Sample) {slot : Slot}
    (hstate : slot.state ≠ .clash) (h : slot.Legal) : (samples.foldl (Slot.takeSample bound sender) slot).Legal := by
  induction samples generalizing slot with
  | nil => exact h
  | cons x xs ih => exact ih (by simpa using hstate) (takeSample_legal bound sender x hstate h)

theorem takeRecord_legal (bound : Stamp) (sender : Station) (samples : List Sample) {slot : Slot} (h : slot.Legal) :
    (slot.takeRecord bound sender samples).Legal := by
  unfold Slot.takeRecord; split
  · exact h
  · rename_i hstate
    split
    · obtain ⟨-, -, -, -, hlate, hfuture⟩ := h
      exact ⟨Nat.zero_le _, fun h => absurd rfl h, fun _ => rfl, by simp, hlate, hfuture⟩
    · exact takeSamples_legal bound sender samples hstate h

theorem ageState_cases (tolerance limitUs : Nat) (now : Stamp) (ring : List Sample) :
    ageState tolerance limitUs now ring = .empty ∨ (ring ≠ [] ∧ ageState tolerance limitUs now ring ≠ .clash) := by
  unfold ageState
  cases h : ring.getLast? with
  | none => exact .inl rfl
  | some x =>
    refine .inr ⟨fun hnil => by simp [hnil] at h, ?_⟩
    dsimp only; split <;> decide

theorem tick_legal (c : Settings) (now : Stamp) (enabled : Bool) {slot : Slot} (h : slot.Legal) :
    (slot.tick c now enabled).Legal := by
  obtain ⟨hlen, hpub, hclash, hne, hlate, hfuture⟩ := h
  unfold Slot.tick; split
  · exact ⟨hlen, hpub, hclash, hne, hlate, hfuture⟩
  · have hsub : (purge c.tolerance now slot.ring).Sublist slot.ring := List.filter_sublist
    refine ⟨hsub.length_le.trans hlen, fun hring => hpub fun hnil => hring ?_, fun hstate => ?_, fun hstate => ?_, hlate,
      hfuture⟩
    · exact List.sublist_nil.mp (hnil ▸ hsub : List.Sublist (purge c.tolerance now slot.ring) [])
    · rcases ageState_cases c.tolerance (c.ageLimit * c.periodUs) now (purge c.tolerance now slot.ring) with he | ⟨-, hc⟩
      · exact absurd (he.symm.trans hstate) (by decide)
      · exact absurd hstate hc
    · rcases ageState_cases c.tolerance (c.ageLimit * c.periodUs) now (purge c.tolerance now slot.ring) with he | ⟨hr, -⟩
      · rcases hstate with hstate | hstate <;> exact absurd (he.symm.trans hstate) (by decide)
      · exact hr

theorem clear_legal {slot : Slot} (h : slot.Legal) : slot.clear.Legal := by
  unfold Slot.clear; split
  · rename_i hstate
    obtain ⟨hlen, -, hclash, -, hlate, hfuture⟩ := h
    exact ⟨hlen, fun hne => absurd (hclash hstate) hne, fun h => absurd h (by simp), by simp, hlate, hfuture⟩
  · exact h

theorem Change.keeps_slotsLegal {s t : State} (h : Change s t) (hs : s.SlotsLegal) : t.SlotsLegal := by
  cases h
  case slot c k bound sender samples _ =>
    intro j
    rw [State.listen_setListen, get_putAt]; split
    · exact takeRecord_legal bound sender samples (hs k)
    · exact hs j
  case listenTick c _ =>
    intro j
    rw [listenTick_listen, get_mapAt]
    exact tick_legal c _ _ (hs j)
  case clear =>
    intro j
    rw [clearTaken_listen, get_mapAt]
    exact clear_legal (hs j)
  case reset => intro j; simp [State.reset, Slot.Legal, Slot.reset]
  all_goals exact fun j => by simpa using hs j

/-! ## Rising rings -/

/-- The distance of a stamp before a bound. -/
def before (bound x : Stamp) : Nat := (bound - x).toNat

/-- A stamp that is not later than the bound lies at most 2^31 before it. -/
theorem before_le {bound x : Stamp} (h : later x bound = false) : before bound x ≤ 2 ^ 31 := by
  have hx := mt (later_iff x bound).mpr (by simp [h])
  unfold before
  rw [BitVec.toNat_sub] at *
  have := bound.isLt
  have := x.isLt
  omega

/-- Of two stamps not later than the bound, the later is the nearer, by less than 2^31. -/
theorem later_iff_before {bound x y : Stamp} (hx : later x bound = false) (hy : later y bound = false) :
    later y x = true ↔ before bound y < before bound x ∧ before bound x - before bound y < 2 ^ 31 := by
  have h₁ := before_le hx
  have h₂ := before_le hy
  rw [later_iff]
  simp only [before, BitVec.toNat_sub] at *
  have := bound.isLt
  have := x.isLt
  have := y.isLt
  omega

/-- A ring that rises, none of its stamps later than the bound, comes nearer to the bound sample by sample. -/
theorem pairwise_before {bound : Stamp} {ring : List Sample} (hrise : ring.IsChain fun a b => later b.stamp a.stamp = true)
    (hfuture : ∀ x ∈ ring, later x.stamp bound = false) :
    ring.Pairwise fun a b => before bound b.stamp < before bound a.stamp := by
  have hchain : ring.IsChain fun a b => before bound b.stamp < before bound a.stamp := by
    induction hrise with
    | nil => exact .nil
    | singleton => exact .singleton _
    | cons_cons h _ ih =>
      refine .cons_cons ?_ (ih fun x hx => hfuture x (List.mem_cons_of_mem _ hx))
      exact ((later_iff_before (hfuture _ List.mem_cons_self)
        (hfuture _ (List.mem_cons_of_mem _ List.mem_cons_self))).mp h).1
  have : IsTrans Sample fun a b => before bound b.stamp < before bound a.stamp := ⟨fun _ _ _ h₁ h₂ => h₂.trans h₁⟩
  exact List.isChain_iff_pairwise.mp hchain

/-- A sample that the purge keeps lies less than 2^31 before the bound. -/
theorem before_lt_of_lag {c : Settings} (hc : c.InRange) {now x : Stamp} (h : lag c.tolerance now x ≤ Config.purgeAge) :
    before (now + BitVec.ofNat 32 c.tolerance) x < 2 ^ 31 := by
  obtain ⟨-, ⟨-, htol⟩, -⟩ := hc
  unfold lag age at h
  unfold before
  have := now.isLt
  have := x.isLt
  simp only [BitVec.toNat_sub, BitVec.toNat_add, BitVec.toNat_ofNat, Config.purgeAge] at *
  split at h <;> omega

/-- R85: the purge of a rising ring leaves a rising ring. -/
theorem purge_rising {c : Settings} (hc : c.InRange) {now : Stamp} {ring : List Sample}
    (hrise : ring.IsChain fun a b => later b.stamp a.stamp = true)
    (hfuture : ∀ x ∈ ring, later x.stamp (now + BitVec.ofNat 32 c.tolerance) = false) :
    (purge c.tolerance now ring).IsChain fun a b => later b.stamp a.stamp = true := by
  refine List.Pairwise.isChain ?_
  refine ((pairwise_before hrise hfuture).filter _).imp_of_mem fun {a b} ha hb hab => ?_
  obtain ⟨ha, hlag⟩ := List.mem_filter.mp ha
  obtain ⟨hb, -⟩ := List.mem_filter.mp hb
  have hnear := before_lt_of_lag hc (of_decide_eq_true hlag)
  exact (later_iff_before (hfuture a ha) (hfuture b hb)).mpr ⟨hab, by omega⟩

/-- R83: a sample that is not late is appended to a rising ring as its newest. -/
theorem appendSample_rising {ring : List Sample} {x : Sample} (hlate : isLate ring x.stamp = false)
    (h : ring.IsChain fun a b => later b.stamp a.stamp = true) :
    (appendSample ring x).IsChain fun a b => later b.stamp a.stamp = true := by
  have hnewest : ∀ y ∈ ring.getLast?, later x.stamp y.stamp = true := fun y hy => by
    rw [Option.mem_def] at hy
    simpa [isLate, hy] using hlate
  unfold appendSample
  rw [List.isChain_append]
  split
  · refine ⟨h.tail, .singleton _, fun y hy z hz => ?_⟩
    obtain rfl : x = z := by simpa using hz
    refine hnewest y ?_
    rw [List.getLast?_tail] at hy
    split at hy
    · cases hy
    · exact hy
  · refine ⟨h, .singleton _, fun y hy z hz => ?_⟩
    obtain rfl : x = z := by simpa using hz
    exact hnewest y hy

end Sys2Proof.Machine

/-! The tick, taken apart (R35): the work before the three that the manual leaves unordered, what the three keep of the
time unit, and what the whole tick makes of each block. -/

namespace Sys2Proof.Machine

variable (s : State) (c : Settings) (stamp : Stamp) (order : TickOrder)

/-- R122, R128, R129: the measurement unit after the tick's snapshot. -/
theorem measureTick_meas : (measureTick s).meas =
    if s.meas.exchange = .idle then s.meas.freeze.beginExchange
    else { s.meas.freeze.idlePort with exchange := .restarting, received := 0
                                       failureRun := satAdd Config.count8 s.meas.failureRun 1 } := by
  unfold measureTick
  split
  · rename_i h; rw [if_pos h]; rfl
  all_goals
    rename_i h
    rw [if_neg (by simp [h]), exchangeFailed, judgeFailureRun, (raiseIf_frame _ _ _).2.2.2.2.2.2.2.2.2.1]
    rfl

/-- R127: SENSOR at the tick, where an abandoned exchange brings the failure run to 3 or more. -/
theorem measureTick_fault : (measureTick s).fault =
    if s.meas.exchange ≠ .idle ∧ Config.failureRunLimit ≤ satAdd Config.count8 s.meas.failureRun 1 then
      (raise .sensor s).fault
    else s.fault := by
  unfold measureTick
  split
  · rename_i h; rw [if_neg (by simp [h])]; rfl
  all_goals
    rename_i h
    rw [exchangeFailed, judgeFailureRun, raiseIf_fault]
    simp [h, raise_fault, Measurement.freeze, Measurement.idlePort]

/-- The tick's work before the lock window, the roster expiry and the mix. -/
def beforeOrder (c : Settings) (stamp : Stamp) (s : State) : State :=
  let s := listenTick c (measureTick (s.setTime { s.time with lastTick := stamp }))
  (s.setRx s.rx.tick).setTest s.test.tick

theorem tickWork_eq : tickWork c stamp order s =
    (publishTick c (orderedTick c stamp order (beforeOrder c stamp s))).setPub
      ((publishTick c (orderedTick c stamp order (beforeOrder c stamp s))).pub.beatTick c) := rfl

@[simp] theorem beforeOrder_frame : (beforeOrder c stamp s).resetLow = s.resetLow ∧
    (beforeOrder c stamp s).settings = s.settings ∧ (beforeOrder c stamp s).line = s.line ∧
    (beforeOrder c stamp s).bus = s.bus ∧ (beforeOrder c stamp s).pub = s.pub ∧
    (beforeOrder c stamp s).mix = s.mix ∧ (beforeOrder c stamp s).drive = s.drive ∧
    (beforeOrder c stamp s).req = s.req ∧ (beforeOrder c stamp s).loader = s.loader ∧
    (beforeOrder c stamp s).pending = s.pending := by
  refine ⟨?_, ?_, ?_, ?_, ?_, ?_, ?_, ?_, ?_, ?_⟩ <;> simp [beforeOrder]

@[simp] theorem beforeOrder_time : (beforeOrder c stamp s).time = { s.time with lastTick := stamp } := by
  simp [beforeOrder]

@[simp] theorem beforeOrder_now : (beforeOrder c stamp s).now = s.now := by
  simp [State.now]

@[simp] theorem beforeOrder_rx : (beforeOrder c stamp s).rx = s.rx.tick := by simp [beforeOrder]

@[simp] theorem beforeOrder_test : (beforeOrder c stamp s).test = s.test.tick := by simp [beforeOrder]

@[simp] theorem beforeOrder_meas : (beforeOrder c stamp s).meas = (measureTick s).meas := by
  simp only [beforeOrder, State.meas_setTest, State.meas_setRx, (listenTick_frame _ _), measureTick_meas]
  rfl

@[simp] theorem beforeOrder_listen : (beforeOrder c stamp s).listen =
    mapAt (fun k slot => slot.tick c s.now (c.slots.get k).enabled) s.listen := by
  have hnow : (measureTick (s.setTime { s.time with lastTick := stamp })).now = s.now := by simp [State.now]
  simp [beforeOrder, hnow]

theorem beforeOrder_fault : (beforeOrder c stamp s).fault = (measureTick s).fault := by
  simp only [beforeOrder, State.fault_setTest, State.fault_setRx, (listenTick_frame _ _), measureTick_fault]
  rfl

/-! ### The three that the manual leaves unordered -/

theorem windowTick_time : (windowTick c s).time =
    if s.time.state = .locked ∧ s.time.lockTimer < Config.lockWindow then
      { s.time with
        lockTimer := s.time.lockTimer + 1
        state := if Config.lockWindow ≤ s.time.lockTimer + 1 ∧ othersPresent c.station s.rx.roster then .adrift
          else s.time.state }
    else s.time := by
  unfold windowTick
  split
  · rename_i h
    unfold windowExpired
    by_cases hw : Config.lockWindow ≤ s.time.lockTimer + 1 ∧ othersPresent c.station s.rx.roster
    · rw [if_pos ⟨h.1, hw⟩, leaveTo_time, if_pos hw]; rfl
    · rw [if_neg fun hw' => hw hw'.2, if_neg hw]; rfl
  · rfl

theorem replaceRoster_time (v : Vector StationRecord 32) : (replaceRoster c v s).time =
    if othersPresent c.station s.rx.roster && !othersPresent c.station v then { s.time with state := .alone }
    else s.time := by
  unfold replaceRoster; dsimp only; split
  · simp
  · rfl

@[simp] theorem replaceRoster_rx (v : Vector StationRecord 32) :
    (replaceRoster c v s).rx = { s.rx with roster := v } := by
  unfold replaceRoster; dsimp only; split
  · simp
  · rfl

@[simp] theorem windowTick_time_keeps : (windowTick c s).time.clock = s.time.clock ∧
    (windowTick c s).time.skipped = s.time.skipped ∧ (windowTick c s).time.laggards = s.time.laggards ∧
    (windowTick c s).time.lastTick = s.time.lastTick := by
  rw [windowTick_time]; split <;> simp

@[simp] theorem rosterTick_time_keeps : (rosterTick c s).time.clock = s.time.clock ∧
    (rosterTick c s).time.skipped = s.time.skipped ∧ (rosterTick c s).time.laggards = s.time.laggards ∧
    (rosterTick c s).time.lastTick = s.time.lastTick ∧ (rosterTick c s).time.lockTimer = s.time.lockTimer := by
  rw [rosterTick, replaceRoster_time]; split <;> simp

@[simp] theorem orderedTick_time_keeps : (orderedTick c stamp order s).time.clock = s.time.clock ∧
    (orderedTick c stamp order s).time.skipped = s.time.skipped ∧
    (orderedTick c stamp order s).time.laggards = s.time.laggards ∧
    (orderedTick c stamp order s).time.lastTick = s.time.lastTick := by
  cases order <;> simp [orderedTick]

/-- The clock does not stop within the ordered three. -/
theorem orderedTick_runs (h : s.time.state ≠ .stopped) : (orderedTick c stamp order s).time.state ≠ .stopped := by
  cases order
  · simpa [orderedTick] using rosterTick_runs c _ (windowTick_runs c s h)
  · simpa [orderedTick] using rosterTick_runs c (mixTick c stamp (windowTick c s)) (by simpa using windowTick_runs c s h)
  · simpa [orderedTick] using windowTick_runs c _ (rosterTick_runs c s h)
  · simpa [orderedTick] using windowTick_runs c (mixTick c stamp (rosterTick c s)) (by simpa using rosterTick_runs c s h)
  · simpa [orderedTick] using rosterTick_runs c _ (windowTick_runs c (mixTick c stamp s) (by simpa using h))
  · simpa [orderedTick] using windowTick_runs c _ (rosterTick_runs c (mixTick c stamp s) (by simpa using h))

/-! ### The whole tick -/

@[simp] theorem tickWork_time : (tickWork c stamp order s).time =
    (orderedTick c stamp order (beforeOrder c stamp s)).time := by simp [tickWork_eq]

@[simp] theorem tickWork_rx : (tickWork c stamp order s).rx =
    (orderedTick c stamp order (beforeOrder c stamp s)).rx := by simp [tickWork_eq]

@[simp] theorem tickWork_mix : (tickWork c stamp order s).mix =
    (orderedTick c stamp order (beforeOrder c stamp s)).mix := by simp [tickWork_eq]

@[simp] theorem tickWork_drive : (tickWork c stamp order s).drive =
    (orderedTick c stamp order (beforeOrder c stamp s)).drive := by simp [tickWork_eq]

@[simp] theorem tickWork_fault : (tickWork c stamp order s).fault =
    (orderedTick c stamp order (beforeOrder c stamp s)).fault := by simp [tickWork_eq]

@[simp] theorem tickWork_test : (tickWork c stamp order s).test = s.test.tick := by simp [tickWork_eq]

@[simp] theorem tickWork_meas : (tickWork c stamp order s).meas = (measureTick s).meas := by simp [tickWork_eq]

@[simp] theorem tickWork_listen : (tickWork c stamp order s).listen =
    mapAt (fun k slot => slot.tick c s.now (c.slots.get k).enabled) s.listen := by simp [tickWork_eq]

theorem tickWork_runs (h : s.time.state ≠ .stopped) : (tickWork c stamp order s).time.state ≠ .stopped := by
  rw [tickWork_time]
  exact orderedTick_runs _ c stamp order (by simpa using h)

/-- A tick of a running clock leaves it where it stands. -/
theorem tickWork_now (h : s.time.state ≠ .stopped) : (tickWork c stamp order s).now = s.now := by
  rw [now_of_running (tickWork_runs s c stamp order h), now_of_running h]
  simp

end Sys2Proof.Machine

/-! Why the stamps of every ring rise (O56). A command moves the clock, if it does, before it touches a ring; from there
on each operation keeps the rings rising with none of their stamps past the bound of the instant (`RingStep`). -/

namespace Sys2Proof.Machine

/-- Every ring rises, and none of its stamps is later than the bound. -/
def State.RingsOk (b : Stamp) (s : State) : Prop :=
  ∀ k, (s.listen.get k).Rising ∧ ∀ x ∈ (s.listen.get k).ring, later x.stamp b = false

/-- The settings and the instant stand, a running clock runs on, and the rings rise up to the bound if they did. -/
structure RingStep (c : Settings) (s t : State) : Prop where
  settings : t.settings = s.settings
  now : t.now = s.now
  runs : s.time.state ≠ .stopped → t.time.state ≠ .stopped
  rings : s.RingsOk (s.futureBound c) → t.RingsOk (s.futureBound c)

theorem futureBound_congr {c : Settings} {s t : State} (h : t.now = s.now) : t.futureBound c = s.futureBound c := by
  unfold State.futureBound; rw [h]

theorem RingStep.refl (c : Settings) (s : State) : RingStep c s s := ⟨rfl, rfl, id, id⟩

theorem RingStep.trans {c : Settings} {s t u : State} (h : RingStep c s t) (h' : RingStep c t u) : RingStep c s u := by
  refine ⟨h'.settings.trans h.settings, h'.now.trans h.now, h'.runs ∘ h.runs, fun hs => ?_⟩
  have := h'.rings
  rw [futureBound_congr h.now] at this
  exact this (h.rings hs)

theorem RingStep.foldl {β : Type} {c : Settings} {f : State → β → State} (h : ∀ s b, RingStep c s (f s b)) (l : List β)
    (s : State) : RingStep c s (l.foldl f s) := by
  induction l generalizing s with
  | nil => exact .refl c s
  | cons b l ih => exact (h s b).trans (ih _)

/-- An operation that leaves the rings. -/
theorem RingStep.of_rings {c : Settings} {s t : State} (hset : t.settings = s.settings) (htime : t.time = s.time)
    (hring : ∀ k, (t.listen.get k).ring = (s.listen.get k).ring) : RingStep c s t := by
  refine ⟨hset, now_congr htime, fun h => by rwa [htime], fun hs k => ?_⟩
  simp only [Slot.Rising, hring k]
  exact hs k

theorem RingStep.of_listen {c : Settings} {s t : State} (hset : t.settings = s.settings) (htime : t.time = s.time)
    (hlisten : t.listen = s.listen) : RingStep c s t := .of_rings hset htime fun k => by rw [hlisten]

/-! ## The operations -/

/-- A slot's ring rises, and none of its stamps is later than the bound. -/
def Slot.RingOk (b : Stamp) (slot : Slot) : Prop := slot.Rising ∧ ∀ x ∈ slot.ring, later x.stamp b = false

theorem takeSample_ringOk (b : Stamp) (sender : Station) {slot : Slot} (x : Sample) (h : slot.RingOk b) :
    (slot.takeSample b sender x).RingOk b := by
  obtain ⟨hrise, hfuture⟩ := h
  unfold Slot.takeSample; split
  · exact ⟨hrise, hfuture⟩
  · rename_i hnow
    split
    · exact ⟨hrise, hfuture⟩
    · rename_i hlate
      refine ⟨appendSample_rising (by simpa using hlate) hrise, fun y hy => ?_⟩
      simp only [appendSample] at hy
      rcases List.mem_append.mp hy with hy | hy
      · split at hy
        · exact hfuture y (List.mem_of_mem_tail hy)
        · exact hfuture y hy
      · rw [List.mem_singleton.mp hy]; simpa using hnow

theorem takeRecord_ringOk (b : Stamp) (sender : Station) (samples : List Sample) {slot : Slot} (h : slot.RingOk b) :
    (slot.takeRecord b sender samples).RingOk b := by
  unfold Slot.takeRecord; split
  · exact h
  · split
    · exact ⟨.nil, fun x hx => absurd hx List.not_mem_nil⟩
    · exact List.foldlRecOn samples _ h fun slot hslot x _ => takeSample_ringOk b sender x hslot

theorem tick_ringOk {c : Settings} (hc : c.InRange) (now : Stamp) (enabled : Bool) {slot : Slot}
    (h : slot.RingOk (now + BitVec.ofNat 32 c.tolerance)) :
    (slot.tick c now enabled).RingOk (now + BitVec.ofNat 32 c.tolerance) := by
  unfold Slot.tick; split
  · exact h
  · exact ⟨purge_rising hc h.1 h.2, fun x hx => h.2 x (List.mem_of_mem_filter hx)⟩

theorem tagTaken_ringStep (c : Settings) (sender : Station) (r : TagRecord) (s : State) :
    RingStep c s (tagTaken c sender r s) := by
  refine ⟨by simp, now_congr (by simp), fun h => by simpa using h, fun hs k => ?_⟩
  unfold tagTaken; split
  · exact hs k
  · rename_i j _
    rw [(raiseIf_frame _ _ _).2.2.2.2.2.2.2.1, State.listen_setListen, get_putAt]
    split
    · exact takeRecord_ringOk _ sender _ (hs j)
    · exact hs k

theorem clear_ring (slot : Slot) : slot.clear.ring = slot.ring := by unfold Slot.clear; split <;> rfl

theorem clearTaken_ringStep (c : Settings) (s : State) : RingStep c s (clearTaken s) :=
  .of_rings (by simp) (by simp) fun k => by rw [clearTaken_listen, get_mapAt, clear_ring]

theorem actOn_ringStep (c d : Settings) (st : Station) (s : State) (r : RequestRecord) :
    RingStep d s (actOn c st s r) := by
  unfold actOn; split
  · unfold requestTaken; split
    · exact .of_listen (by simp) (by simp) (by simp)
    · exact .of_listen (by simp) (by simp) (by simp)
    · exact clearTaken_ringStep d s
    · exact .of_listen (by simp) (by simp) (by simp)
    · exact .of_listen (by simp) (by simp) (by simp)
    · exact .of_listen (by simp) (by simp) (by simp)
  · exact .refl d s

theorem takeHanded_ringStep (c : Settings) (sender : Station) (s : State) (x : Handed) :
    RingStep c s (takeHanded c sender s x) := by
  unfold takeHanded; split
  · exact tagTaken_ringStep c sender _ s
  · exact .of_listen (by simp) (by simp) (by simp)
  · exact actOn_ringStep c c sender s _
  · exact .refl c s
  · exact .of_listen (by simp) (by simp) (by simp)

theorem tickWork_ringStep {c : Settings} (hc : c.InRange) (stamp : Stamp) (order : TickOrder) {s : State}
    (h : s.time.state ≠ .stopped) : RingStep c s (tickWork c stamp order s) := by
  refine ⟨by simp, tickWork_now s c stamp order h, fun _ => tickWork_runs s c stamp order h, fun hs k => ?_⟩
  rw [tickWork_listen, get_mapAt]
  exact tick_ringOk hc s.now _ (hs k)

/-- A matching frame: after the stamp hand-off the clock stands. -/
theorem matchingFrame_ringStep {c : Settings} (hc : c.InRange) (place : JumpTick) (order : TickOrder) (f : HeardFrame)
    (s : State) : RingStep c (endBackoff (handOff c f s)) (matchingFrame c place order f s) := by
  have fold (l : List Handed) (t : State) : RingStep c t (l.foldl (takeHanded c f.station) t) :=
    .foldl (fun t x => takeHanded_ringStep c f.station t x) l t
  have update (t : State) : RingStep c t (rosterUpdate f t) := .of_listen (by simp) (by simp) (by simp)
  cases ht : handOffTick c f s with
  | none =>
    unfold matchingFrame; simp only [ht]
    cases place
    all_goals exact (update _).trans ((fold _ _).trans (fold _ _))
  | some stamp =>
    have hrun : (endBackoff (handOff c f s)).time.state ≠ .stopped := by
      have hs : s.time.state ≠ .stopped := fun hst => by simp [handOffTick, hst] at ht
      simpa using handOff_runs c f s hs
    unfold matchingFrame; simp only [ht]
    cases place
    · exact (tickWork_ringStep hc stamp order hrun).trans ((update _).trans ((fold _ _).trans (fold _ _)))
    · rename_i n
      have hrecords := (update (endBackoff (handOff c f s))).trans
        (fold (f.handed.take (recordsBefore (.afterRecords n))) _)
      exact hrecords.trans ((tickWork_ringStep hc stamp order (hrecords.runs hrun)).trans (fold _ _))

/-- A frame end: it leaves the rings up to a state from which the clock stands. -/
theorem frameEnded_ringStep {c : Settings} (hc : c.InRange) (heard : Heard) (place : JumpTick) (order : TickOrder)
    (s : State) : ∃ u, u.listen = s.listen ∧ RingStep c u (frameEnded c heard place order s) := by
  unfold frameEnded; split
  · refine ⟨s, rfl, ?_⟩
    unfold ownFrameEnd; split
    · exact .of_listen (by simp) (by simp) (by simp)
    · split
      · exact .of_listen (by simp) (by simp) (by simp)
      · exact RingStep.trans (.of_listen (by simp) (by simp) (by simp))
          (.foldl (fun t r => actOn_ringStep c c c.station t r) _ _)
  · split
    · unfold judgeHeard; split
      · exact ⟨s, rfl, .of_listen (by simp) (by simp) (by simp)⟩
      · split
        · exact ⟨s, rfl, .of_listen (by simp) (by simp) (by simp)⟩
        · split
          · exact ⟨s, rfl, .of_listen (by simp) (by simp) (by simp)⟩
          · exact ⟨_, by simp, matchingFrame_ringStep hc place order _ s⟩
    · exact ⟨s, rfl, .refl c s⟩

/-! ## The commands -/

/-- The commands that can reach a ring. -/
def reachesRings : Instr → Bool
  | .reset | .frameEnd _ _ _ _ | .tick _ | .tagRecord _ _ | .clear => true
  | _ => false

/-- Every other command leaves every slot. -/
theorem exec_listen {i : Instr} (hi : reachesRings i = false) {s t : State} (h : exec i s = .next t) :
    t.listen = s.listen := by
  cases i
  case reset | frameEnd | tick | tagRecord | clear => cases hi
  all_goals
    simp only [exec, execArm, execAttemptComplete, execAttemptFailure, execBeatDue, execBurstComplete, execClockStretchTimeout,
      execCollision, execConsecutiveCollisionLimit, execDisarm, execDrvAttnAssertion, execDrvAttnRelease,
      execEncoderAcceptance, execExchangeComplete, execExchangeRestart, execFailureRunLimit, execFallingEdge,
      execGapEnd, execJamMarkEnd, execLineBusy, execLockWindowExpiry, execNoiseBucketFull, execNoiseLeak,
      execNoteRecord, execOnTimeEnd, execPassComplete, execPassPulseEnd, execPublishSample, execPwmPeriodStart,
      execQuery, execQuietLimit, execRequestInputLevelAcceptance, execResetRelease, execRetryWaitEnd,
      execRosterExpiry, execSaturationRunLimit, execSlotBoundary, execStopLineAssertion, execStopLineRelease,
      execTestBlock, execTestQuietTimeout, execTestStart, execTestStop, Host.Outcome.next.injEq] at h
    subst h
    (repeat' split) <;> simp [observeInputs]

/-- Rings that stand still rise, and none of their stamps has become future. -/
theorem ringsRise_of_rings {s t : State} (hs : s.RingsRise) (hn : s.NoneFutureAt t)
    (hring : ∀ k, (t.listen.get k).ring = (s.listen.get k).ring) : t.RingsRise := by
  refine ⟨fun k => ?_, fun c hc k x hx => hn c hc k x (hring k ▸ hx)⟩
  rw [Slot.Rising, hring k]
  exact hs.1 k

/-- Rings that an operation reaches at an instant at which the command ends. -/
theorem ringsRise_of_ringStep {c : Settings} {s u t : State} (hs : s.RingsRise) (hn : s.NoneFutureAt t)
    (hlisten : u.listen = s.listen) (hset : t.settings = some c) (h : RingStep c u t) : t.RingsRise := by
  have hbound : t.futureBound c = u.futureBound c := futureBound_congr h.now
  have hu : u.RingsOk (u.futureBound c) := fun k => by
    rw [hlisten, ← hbound]; exact ⟨hs.1 k, hn c hset k⟩
  refine ⟨fun k => (h.rings hu k).1, fun d hd k x hx => ?_⟩
  obtain rfl : c = d := Option.some.inj (hset.symm.trans hd)
  rw [hbound]
  exact (h.rings hu k).2 x hx

theorem exec_ringsRise (i : Instr) {s t : State} (h : exec i s = .next t) (hl : s.SettingsLegal) (hs : s.RingsRise)
    (hn : s.NoneFutureAt t) : t.RingsRise := by
  cases hi : reachesRings i with
  | false => exact ringsRise_of_rings hs hn fun k => by rw [exec_listen hi h]
  | true =>
    cases i
    case reset =>
      obtain rfl := Host.Outcome.next.inj h
      exact ⟨fun k => by simp [State.reset, Slot.reset, Slot.Rising], fun c hc => absurd hc (by simp [State.reset])⟩
    case clear =>
      obtain rfl := Host.Outcome.next.inj h
      refine ringsRise_of_rings hs hn fun k => ?_
      split
      · rw [clearTaken_listen, get_mapAt, clear_ring]
      · rfl
    case tagRecord sender record =>
      cases hset : s.settings with
      | none =>
        simp only [exec, execTagRecord, hset, Host.Outcome.next.injEq] at h
        exact h ▸ hs
      | some c =>
        simp only [exec, execTagRecord, hset, Host.Outcome.next.injEq] at h
        subst h
        split
        · rename_i hrun
          rw [if_pos hrun] at hn
          exact ringsRise_of_ringStep hs hn rfl (by simpa using hset) (tagTaken_ringStep c sender record s)
        · exact hs
    case tick order =>
      cases hset : s.settings with
      | none =>
        simp only [exec, execTick, hset, Host.Outcome.next.injEq] at h
        exact h ▸ hs
      | some c =>
        simp only [exec, execTick, hset, Host.Outcome.next.injEq] at h
        subst h
        split
        · exact hs
        · rename_i hrun
          rw [if_neg hrun] at hn
          exact ringsRise_of_ringStep (u := s.advance _) hs hn (by simp) (by simpa using hset)
            (tickWork_ringStep (hl c hset).1 _ order (by simpa using hrun))
    case frameEnd dt heard place order =>
      cases hset : s.settings with
      | none =>
        simp only [exec, execFrameEnd, hset, Host.Outcome.next.injEq] at h
        exact ringsRise_of_rings hs hn fun k => by rw [← h]; simp
      | some c =>
        simp only [exec, execFrameEnd, hset, Host.Outcome.next.injEq] at h
        obtain ⟨u, hu, hstep⟩ := frameEnded_ringStep (hl c hset).1 heard place order (s.advance dt)
        refine ringsRise_of_ringStep (c := c) hs hn (hu.trans (by simp)) (by simpa [← h] using hset) ?_
        rw [← h]
        exact hstep.trans (.of_listen (by simp) (by simp) (by simp))
    all_goals cases hi

/-- Settles O56: slots stay legal by the small changes, and the rings rise by the order of a command's work. -/
theorem stepKeepsTheSlotsLegal : Obligations.StepKeepsTheSlotsLegal := by
  refine fun s t h =>
    ⟨keeps_step State.SlotsLegal (fun _ _ hs => hs) (fun _ _ => Change.keeps_slotsLegal) h, fun hl hs hn => ?_⟩
  unfold step at h
  split at h
  · cases h; exact hs
  · exact exec_ringsRise _ h hl hs hn

end Sys2Proof.Machine

/-! The machine as a whole, and the loader's commands. -/

namespace Sys2Proof.Machine

/-- Settles O1: the execution of the front command is what the step is defined by. -/
theorem stepRunsTheFrontCommand : Obligations.StepRunsTheFrontCommand := by
  refine ⟨fun c rest s hs => ?_, fun s hs => ?_⟩
  · unfold step; rw [hs]; rfl
  · unfold step; rw [hs]

/-- Settles O3: the reset state's blocks are those that are named. -/
theorem resetRestoresEveryBlock : Obligations.ResetRestoresEveryBlock := fun _ => rfl

/-! ## Attempts -/

/-- The reads of a clock stretch, in the two ways of saying that the last of the 256 is not acknowledged. -/
theorem readActs_eq {n : Nat} (h : n ≤ 256) :
    readActs n = (List.range n).map fun i => .read (decide (i ≠ 255)) := by
  refine List.map_congr_left fun i hi => ?_
  have hi := List.mem_range.mp hi
  simp only [Config.imageBytes, I2cAct.read.injEq, decide_eq_decide]
  omega

/-- The reads of a complete attempt: every byte but the last is acknowledged. -/
theorem readActs_imageBytes : readActs Config.imageBytes = List.replicate 255 (.read true) ++ [.read false] := by
  rw [readActs_eq (Nat.le_refl _), List.range_succ (n := 255), List.map_append]
  refine congrArg (· ++ [I2cAct.read false]) (List.eq_replicate_iff.mpr ⟨by simp, fun x hx => ?_⟩)
  obtain ⟨i, hi, rfl⟩ := List.mem_map.mp hx
  rw [decide_eq_true (Nat.ne_of_lt (List.mem_range.mp hi))]

theorem Loader.fail_noAck (p : AckPoint) (l : Loader) : l.fail (.noAck p) =
    { l with stage := .waiting, sent := l.sent ++ (actsThrough p ++ [.stop]) } := by
  simp [Loader.fail]

theorem Loader.stretched_sending (p : AckPoint) (l : Loader) : l.stretched (.sending p) =
    { l with stage := .waiting, sent := l.sent ++ (actsBefore p ++ [.release]) } := by
  simp [Loader.stretched]

theorem Loader.stretched_reading {got : List Byte} (h : got.length ≤ 256) (l : Loader) : l.stretched (.reading got) =
    { l with stage := .waiting, buffer := got ++ l.buffer.drop got.length
             sent := l.sent ++ (actsThrough .readAddress ++
               (List.range got.length).map (fun i => .read (decide (i ≠ 255))) ++ [.release]) } := by
  simp [Loader.stretched, readActs_eq h]

theorem exec_noAck (p : AckPoint) (s : State) : exec (.attemptFailure (.noAck p)) s = .next
    (if s.loader.stage = .attempting then
      { s with loader := { s.loader with stage := .waiting, sent := s.loader.sent ++ (actsThrough p ++ [.stop]) } }
    else s) := by
  rw [← Loader.fail_noAck]; rfl

theorem exec_stretch_sending (p : AckPoint) (s : State) : exec (.clockStretchTimeout (.sending p)) s = .next
    (if s.loader.stage = .attempting then
      { s with loader := { s.loader with stage := .waiting, sent := s.loader.sent ++ (actsBefore p ++ [.release]) } }
    else s) := by
  rw [← Loader.stretched_sending]
  simp [exec, execClockStretchTimeout, Loader.canHold, State.setLoader]

/-- Settles O4: each command is its case of the loader's operation. -/
theorem attemptsBeginAndFail : Obligations.AttemptsBeginAndFail := by
  refine ⟨fun n s => rfl, fun s => ⟨rfl, exec_noAck _ s, exec_noAck _ s, exec_noAck _ s, fun n => ?_,
    exec_stretch_sending _ s, exec_stretch_sending _ s, exec_stretch_sending _ s, fun got => ?_⟩⟩
  · simp only [exec, execClockStretchTimeout, Loader.canHold, Host.Outcome.next.injEq, decide_eq_true_eq]
    by_cases hn : n < s.loader.freeing
    · simp only [hn, and_true, if_true]; rfl
    · simp only [hn, and_false, if_false]
  · simp only [exec, execClockStretchTimeout, Loader.canHold, Host.Outcome.next.injEq, decide_eq_true_eq]
    by_cases hgot : got.length ≤ Config.imageBytes
    · rw [if_pos hgot, Loader.stretched_reading hgot]
      simp only [hgot, and_true]; rfl
    · rw [if_neg hgot, if_neg fun h => hgot h.2]

/-- Settles O5: the end of the wait is judged by the attempts left. -/
theorem waitEndRetriesOrRejects : Obligations.WaitEndRetriesOrRejects := by
  intro n s
  simp only [exec, execRetryWaitEnd, waitEnded, Host.Outcome.next.injEq]
  by_cases hw : s.loader.stage = .waiting
  · simp only [hw, if_true, ne_eq, not_true_eq_false, if_false]
    split <;> rfl
  · simp only [hw, if_false, ne_eq, not_false_eq_true, if_true]

theorem transactionActs_eq (sent : List I2cAct) : sent ++ transactionActs =
    sent ++ [.start, .address 0x50 .write, .byte 0, .repeatedStart, .address 0x50 .read] ++
      List.replicate 255 (.read true) ++ [.read false, .stop] := by
  rw [transactionActs, readActs_imageBytes]; simp only [List.append_assoc]; rfl

theorem FaultUnit.joinNote_drivePins (u : FaultUnit) (rising stop : FlagSet) (now : Stamp) :
    (u.joinNote rising now).drivePins stop = { u.joinNote rising now with
      faultPin := decide (u.flags = 0), stopPull := decide (u.flags &&& stop ≠ 0) } := by
  simp [FaultUnit.drivePins]

/-- A buffer that the judgement turns down is the rejection, with the whole transaction sent. -/
theorem imageJudged_of_none {image : List Byte} (h : judgeImage image = none) (s : State) :
    imageJudged image s = raise .config { s with
      loader := { s.loader with buffer := image, sent := s.loader.sent ++ transactionActs, phase := .off,
                                stage := .finished } } := by
  rw [imageJudged, h]
  rfl

/-- A buffer that the judgement takes puts its settings in force, with the whole transaction sent. -/
theorem imageJudged_of_some {image : List Byte} {c : Settings} (h : judgeImage image = some c) (s : State) :
    imageJudged image s = { s with
      settings := some c
      loader := { s.loader with buffer := image, sent := s.loader.sent ++ transactionActs, phase := .listen,
                                stage := .finished, listenQuiet := 0 }
      drive := { s.drive with state := .disarmed, duty := 0, direction := false, pendingSetting := none,
                              drvEn := false, drvPwm := false, drvDir := false }
      mix := { s.mix with integral := 0 }
      fault := { s.fault.joinNote (s.fault.flags &&& c.noteRoutes) s.now with
        faultPin := decide (s.fault.flags = 0), stopPull := decide (s.fault.flags &&& c.stopRoutes ≠ 0) } } := by
  rw [imageJudged, h]
  refine State.ext_blocks ⟨rfl, rfl, rfl, rfl, rfl, rfl, rfl, rfl, rfl, rfl, rfl, ?_, rfl, rfl, rfl, rfl⟩
  dsimp only
  rw [accept_fault, FaultUnit.joinNote_drivePins]
  rfl

/-- Settles O6: the judgement of the buffer decides between the rejection and the acceptance. -/
theorem completeImageIsJudged : Obligations.CompleteImageIsJudged := by
  intro image s
  dsimp only
  rw [← transactionActs_eq]
  refine congrArg Host.Outcome.next (if_congr Iff.rfl ?_ rfl)
  cases hjudge : judgeImage image with
  | none => exact imageJudged_of_none hjudge s
  | some c => exact imageJudged_of_some hjudge s

/-! ## Reset -/

theorem reset_effortBounded : State.reset.EffortBounded := by
  refine ⟨⟨rfl, rfl, rfl, rfl⟩, Nat.zero_le _⟩

/-- Settles O60: the reset values are closed. -/
theorem resetHasEveryInvariant : Obligations.ResetHasEveryInvariant := by
  refine ⟨by decide +kernel, by decide +kernel, by decide +kernel, by decide +kernel, by decide +kernel,
    by decide +kernel, by decide +kernel, by decide +kernel, ⟨rfl, by decide +kernel⟩, by decide +kernel,
    ⟨by decide +kernel, fun c hc => absurd hc (by simp [State.reset])⟩, List.nodup_nil, ⟨List.nodup_nil, fun e he => absurd he List.not_mem_nil⟩,
    rfl, fun c hc => absurd hc (by simp [State.reset]), reset_effortBounded⟩

end Sys2Proof.Machine

/-! Flags and time, and the bus controller's short commands. -/

namespace Sys2Proof.Machine

/-! ## Flag sets -/

theorem Flag.bit_surj {i : Nat} (h : i < 14) : ∃ f : Flag, f.bit = i := by
  interval_cases i
  exacts [⟨.config, rfl⟩, ⟨.twin, rfl⟩, ⟨.clash, rfl⟩, ⟨.feedLost, rfl⟩, ⟨.lockLost, rfl⟩, ⟨.period, rfl⟩,
    ⟨.linkNoise, rfl⟩, ⟨.contention, rfl⟩, ⟨.sensor, rfl⟩, ⟨.encoder, rfl⟩, ⟨.limit, rfl⟩, ⟨.saturation, rfl⟩,
    ⟨.driveAttn, rfl⟩, ⟨.remote, rfl⟩]

/-- Two flag sets with the same flags are equal. -/
theorem flagSet_ext {a b : FlagSet} (h : ∀ f, hasFlag a f = hasFlag b f) : a = b := by
  refine BitVec.eq_of_getLsbD_eq fun i hi => ?_
  obtain ⟨f, rfl⟩ := Flag.bit_surj hi
  exact h f

@[simp] theorem hasFlag_empty (f : Flag) : hasFlag 0#14 f = false := hasFlag_zero f

/-- One flag under a mask. -/
theorem single_and (f : Flag) (mask : FlagSet) : f.single &&& mask = if hasFlag mask f then f.single else 0 := by
  refine flagSet_ext fun g => ?_
  by_cases hg : f = g
  · subst hg; cases h : hasFlag mask f <;> simp [h]
  · cases h : hasFlag mask f <;> simp [hg]

@[simp] theorem single_ne_zero (f : Flag) : ¬f.single = 0#14 := fun h => by
  have := hasFlag_single f f
  simp [h] at this

/-- Settles O8: flag by flag, a raise sets the one bit. -/
theorem raiseSetsFlagAndActsOnRoutes : Obligations.RaiseSetsFlagAndActsOnRoutes := by
  refine ⟨fun f s => ?_, fun u rising now => rfl⟩
  unfold raise FaultUnit.raise
  split
  · rfl
  · refine congrArg s.setFault ?_
    rw [FaultUnit.joinNote_drivePins, single_and]
    cases hr : hasFlag s.noteRoutes f
    · simp [FaultUnit.joinNote]
    · cases s.fault.noteInFlight <;> cases s.fault.notePending <;> simp [FaultUnit.joinNote]

/-- Settles O9, block by block: each counts the time that passes. -/
theorem passingTimeMovesTheTimers : Obligations.PassingTimeMovesTheTimers := by
  intro us s
  refine State.ext_blocks ⟨rfl, rfl, rfl, rfl, rfl, rfl, rfl, rfl, rfl, rfl, rfl, rfl, rfl, rfl, ?_, rfl⟩
  simp [advance_loader_eq, Loader.count, satAdd]

/-! ## The bus controller -/

/-- Settles O10, block by block. -/
theorem lineBusyEndsThePass : Obligations.LineBusyEndsThePass := by
  intro dt s
  refine congrArg Host.Outcome.next (if_congr Iff.rfl rfl ?_)
  refine State.ext_blocks ⟨rfl, rfl, rfl, rfl, rfl, ?_, rfl, rfl, rfl, rfl, rfl, rfl, rfl, rfl, ?_, rfl⟩
  · simp only [lineHeardBusy, State.rx_setBus, State.rx_setLoader, State.rx_setRx, State.rx_setLine,
      State.time_setLine, advance_time_eq, advance_frame, TimeUnit.count]
    split
    · rfl
    · rfl
  · simp only [lineHeardBusy, State.loader_setBus, State.loader_setLoader, State.loader_setRx, State.loader_setLine,
      advance_loader_eq, Loader.count]
    split <;> rfl

/-- Settles O15: each command is its case, as the model has it. -/
theorem collisionDrivesAJamMark : Obligations.CollisionDrivesAJamMark := fun _ _ => ⟨rfl, rfl⟩

end Sys2Proof.Machine

/-! The wheel, the frame start and the frame end at its sender. -/

namespace Sys2Proof.Machine

/-! ## The wheel -/

theorem BusController.runsWheel_iff (b : BusController) : b.runsWheel = true ↔ b.tx = .ready ∨ b.tx = .backoff := by
  simp [BusController.runsWheel]

theorem Wheel.inPass_iff (w : Wheel) : w.inPass = true ↔ w ≠ .stopped ∧ w ≠ .gap := by
  cases w <;> simp [Wheel.inPass]

theorem tickIndex_of {c : Settings} {s : State} (h : s.settings = some c) :
    s.tickIndex = BitVec.ofNat 5 (s.now.toNat / 2 ^ c.period) := by
  simp only [State.tickIndex, h, Settings.periodUs]

/-- R18: a pass of a controller that runs the wheel, done. -/
theorem BusController.passDone_of_runs {b : BusController} (h : b.tx = .ready ∨ b.tx = .backoff) : b.passDone =
    { b with quietWheels := if b.tx = .backoff then b.quietWheels + 1 else b.quietWheels
             tx := if b.tx = .backoff ∧ b.quietWheels + 1 < 2 then .backoff else .ready } := by
  rcases h with h | h
  · cases b; obtain rfl := h; rfl
  · simp only [BusController.passDone, h, if_true, true_and, Config.backoffPasses]
    by_cases hfew : b.quietWheels + 1 < 2
    · rw [if_neg (Nat.not_le.mpr hfew), if_pos hfew]
    · rw [if_pos (Nat.le_of_not_lt hfew), if_neg hfew]

/-- Settles O11: at each point where a pass begins or ends, by the state of the wheel. -/
theorem wheelPassesBegin : Obligations.WheelPassesBegin := by
  intro dt c s hset
  have hu : (s.advance dt).settings = some c := hset
  refine ⟨?_, ?_⟩
  · simp only [exec, execGapEnd, hset, BusController.runsWheel_iff, beginPass, tickIndex_of hu]; rfl
  · simp only [exec, execPassComplete, hset, BusController.runsWheel_iff, Wheel.inPass_iff]
    simp only [and_assoc]
    by_cases h : s.bus.wheel ≠ .stopped ∧ s.bus.wheel ≠ .gap ∧ (s.bus.tx = .ready ∨ s.bus.tx = .backoff) ∧
        s.line.busy = false
    · obtain ⟨-, -, hruns, -⟩ := id h
      rw [if_pos h, if_pos h, BusController.passDone_of_runs hruns, beginPass, tickIndex_of (by simpa using hset)]
      rfl
    · rw [if_neg h, if_neg h]

/-! ## The frame start -/

theorem State.boundaryAhead_iff (slot : Nat) (s : State) : s.boundaryAhead slot = true ↔
    (∃ next, next ≤ slot ∧ s.bus.wheel = .pass next) ∧ slot < 96 ∧ s.line.busy = false := by
  unfold State.boundaryAhead
  split
  · rename_i next hw
    simp only [hw, Wheel.pass.injEq, exists_eq_right', Config.wheelSlots]
    simp [and_assoc]
  · rename_i hw; simp [hw]
  · rename_i hw; simp [hw]

theorem State.currentClass_eq (s : State) : s.currentClass =
    if s.fault.notePending = true then some .fault
    else if s.pub.escalated = true ∨ s.req.list ≠ [] then some .demand
    else if s.pub.outbox ≠ [] ∨ s.req.statusPending = true ∨ s.test.due = true ∨ s.pub.beatDue = true then some .routine
    else none := rfl

/-- The slot of a class starts its frame in a READY controller. -/
theorem slotBoundaryTaken_of_class {c : Settings} {slot : Nat} {s : State} {k : BusClass}
    (h : s.currentClass = some k) : slotBoundaryTaken c slot s =
      let nothing := s.setBus { s.bus with wheel := .pass (slot + 1) }
      if s.bus.tx = .ready then if slot = k.band + s.bus.position.toNat then startFrame c k nothing else nothing
      else nothing := by
  simp only [slotBoundaryTaken, h, BusClass.slotAt, eq_comm (a := slot)]
  by_cases hready : s.bus.tx = .ready
  · simp only [hready, true_and, if_true]
  · simp only [hready, false_and, if_false]

/-- The slot that starts a frame, class by class. -/
theorem slotBoundaryTaken_eq (c : Settings) (slot : Nat) (s : State) : slotBoundaryTaken c slot s =
    let nothing := s.setBus { s.bus with wheel := .pass (slot + 1) }
    let start (k : BusClass) : State := startFrame c k nothing
    if s.bus.tx = .ready then
      if s.fault.notePending = true then (if slot = s.bus.position.toNat then start .fault else nothing)
      else if s.pub.escalated = true ∨ s.req.list ≠ [] then
        (if slot = 32 + s.bus.position.toNat then start .demand else nothing)
      else if s.pub.outbox ≠ [] ∨ s.req.statusPending = true ∨ s.test.due = true ∨ s.pub.beatDue = true then
        (if slot = 64 + s.bus.position.toNat then start .routine else nothing)
      else nothing
    else nothing := by
  have hcls := s.currentClass_eq
  dsimp only
  by_cases hnote : s.fault.notePending = true
  · rw [if_pos hnote] at hcls
    rw [slotBoundaryTaken_of_class hcls, if_pos hnote, BusClass.band, Nat.zero_add]
  · rw [if_neg hnote] at hcls ⊢
    by_cases hdemand : s.pub.escalated = true ∨ s.req.list ≠ []
    · rw [if_pos hdemand] at hcls ⊢
      exact slotBoundaryTaken_of_class hcls
    · rw [if_neg hdemand] at hcls ⊢
      split at hcls
      · rename_i hroutine
        rw [slotBoundaryTaken_of_class hcls, if_pos hroutine]; rfl
      · rename_i hroutine
        rw [if_neg hroutine, ite_self]
        simp only [slotBoundaryTaken, hcls]

/-- The effect of a frame start on every block that it reaches. -/
theorem startFrame_eq (c : Settings) (k : BusClass) (s : State) : startFrame c k s =
    { s with
      line := { busy := true, abandoned := false }
      bus := { s.bus with
        tx := .sending, classInForce := some k, copy := some (s.frameCopy c k), sequence := s.bus.sequence + 1
        collided := false, driving := .frame, wheel := .stopped }
      pub := { s.pub with
        beatTimer := 0, beatDue := false
        outbox := if s.frameKind = .data then markTaken (s.entriesTaken c) s.pub.outbox else s.pub.outbox }
      fault := if s.frameKind = .data ∧ s.fault.notePending = true then
          { s.fault with noteInFlight := true, following := 0 }
        else s.fault } := by
  refine State.ext_blocks ⟨rfl, rfl, rfl, rfl, rfl, rfl, ?_, rfl, rfl, rfl, rfl, ?_, rfl, rfl, rfl, rfl⟩
  · rw [startFrame_pub]; split <;> rfl
  · rw [startFrame_fault, ite_and]; rfl

/-- Settles O12: by the equations of a frame's start and of the current class. -/
theorem slotBoundaryStartsTheFrame : Obligations.SlotBoundaryStartsTheFrame := by
  refine ⟨fun dt slot s hset => by simp only [exec, execSlotBoundary, hset], fun dt slot c s hset => ?_⟩
  refine ⟨fun h => ?_, fun hahead hslot hquiet => ?_⟩
  · simp only [exec, execSlotBoundary, hset, State.boundaryAhead_iff]
    rw [if_neg h]
  · simp only [exec, execSlotBoundary, hset, State.boundaryAhead_iff]
    rw [if_pos ⟨hahead, hslot, hquiet⟩, slotBoundaryTaken_eq]
    simp only [startFrame_eq]
    rfl

end Sys2Proof.Machine

/-! The end of a frame at its sender, and the quiet limit. -/

namespace Sys2Proof.Machine

/-- What a collided end makes of each block, before the count of collisions is judged. -/
theorem collidedItems_eq (f : FrameCopy) (s : State) : collidedItems f s =
    { s with
      bus := { s.bus with
        tx := .ready, classInForce := none, copy := none, collided := false, driving := .released
        consecutive := s.bus.consecutive + 1, collisionTotal := min 65535 (s.bus.collisionTotal + 1) }
      fault := if f.note.isSome then
          { s.fault with newlyRaised := s.fault.newlyRaised ||| s.fault.following, following := 0
                         noteInFlight := false }
        else s.fault
      pub := { s.pub with outbox := s.pub.outbox.map fun e => { e with inFlight := false, revised := false } }
      test := if f.kind = .test ∧ s.test.state = .sending then s.test.countErrors 1 else s.test } := by
  refine State.ext_blocks ⟨rfl, rfl, rfl, rfl, rfl, rfl, rfl, rfl, rfl, rfl, rfl, rfl, rfl, ?_, rfl, rfl⟩
  rw [collidedItems_test, TestUnit.sentCollided, ite_and]

/-- The frame end of a station that is sending. -/
theorem exec_frameEnd_sending {c : Settings} {f : FrameCopy} {s : State} (hset : s.settings = some c)
    (htx : s.bus.tx = .sending) (hcopy : s.bus.copy = some f) (dt : Nat) (heard : Heard) (place : JumpTick)
    (order : TickOrder) : exec (.frameEnd dt heard place order) s = .next (lineHeardQuiet
      (if s.bus.collided then collidedEnd f (s.advance dt) else cleanEnd c f (s.advance dt))) := by
  have hu : (s.advance dt).bus = s.bus := rfl
  simp only [exec, execFrameEnd, hset, frameEnded, hu, htx, if_true, ownFrameEnd, hcopy]

/-- Settles O16: by the equation of a collided end. -/
theorem collidedEndKeepsEveryItem : Obligations.CollidedEndKeepsEveryItem := by
  refine ⟨fun dt heard place order c f s hset htx hcopy hcol => ?_, fun s => rfl⟩
  rw [exec_frameEnd_sending hset htx hcopy, hcol, if_pos rfl, collidedEnd, collidedItems_eq]
  dsimp only
  by_cases hlimit : 4 ≤ s.bus.consecutive + 1
  · rw [if_pos hlimit]
    unfold collisionsJudged
    rw [if_pos ⟨hlimit, Or.inl rfl⟩]
    simp only [hlimit, if_true]
    rfl
  · rw [if_neg hlimit]
    unfold collisionsJudged
    rw [if_neg fun h => hlimit h.1]
    simp only [hlimit, if_false]
    rfl

/-- What a clean end releases to each owner, before the station acts on the requests of its own frame. -/
theorem releaseCarried_eq (c : Settings) (f : FrameCopy) {s : State} (hcol : s.bus.collided = false) :
    let kept := (s.pub.outbox.filter fun e => !e.inFlight || e.revised).map fun e =>
      { e with inFlight := false, revised := false }
    releaseCarried c f s =
    { s with
      bus := { s.bus with
        tx := .ready, classInForce := none, copy := none, driving := .released, consecutive := 0 }
      fault := if f.note.isSome = false then s.fault
        else if s.fault.following = 0 then
          { s.fault with newlyRaised := 0, notePending := false, noteInFlight := false }
        else { s.fault with newlyRaised := s.fault.following, firstRaise := s.fault.followingStamp, following := 0
                            noteInFlight := false }
      req := { s.req with
        list := s.req.list.filter fun r => !f.requests.any fun x => decide (x.input = r.input)
        statusPending := s.req.statusPending && f.status.isNone }
      pub := { s.pub with
        outbox := kept
        escalated := if kept.length = s.pub.outbox.length then s.pub.escalated
          else if c.escalateMark ≤ kept.length then true
          else if kept.length ≤ c.relaxMark then false else s.pub.escalated }
      test := match f.test with
        | none => s.test
        | some b =>
          if s.test.state ≠ .sending then s.test
          else if b.last then s.test.finish
          else { s.test with due := false, index := if s.test.index = 65535 then 1 else s.test.index + 1 } } := by
  refine State.ext_blocks ⟨rfl, rfl, rfl, ?_, rfl, rfl, rfl, rfl, rfl, rfl, rfl, ?_, rfl, ?_, rfl, rfl⟩
  · simp only [releaseCarried_bus, BusController.endFrame, hcol]
  · rw [releaseCarried_fault]
    cases f.note.isSome <;> rfl
  · rw [releaseCarried_test]
    cases f.test <;> rfl

/-- Acting on requests leaves the bus controller. -/
theorem foldl_actOn_bus (c : Settings) (st : Station) (l : List RequestRecord) (s : State) :
    (l.foldl (actOn c st) s).bus = s.bus := by
  induction l generalizing s with
  | nil => rfl
  | cons r l ih => simp [ih]

/-- Settles O17: the releases by the equation above, and acting on requests leaves the bus controller. -/
theorem cleanEndReleasesWhatWasCarried : Obligations.CleanEndReleasesWhatWasCarried := by
  intro dt heard place order c f s hset htx hcopy hcol
  rw [exec_frameEnd_sending hset htx hcopy, hcol, if_neg Bool.false_ne_true, cleanEnd, lineHeardQuiet,
    foldl_actOn_bus, releaseCarried_eq c f (s := s.advance dt) hcol]
  rfl

/-- The publisher at the entry to RUN, entry by entry. -/
theorem Publisher.enterRun_eq (c : Settings) (p : Publisher) : p.enterRun c =
    { p with entries := mapAt (fun i x => match c.entryAt i with
        | none => x
        | some e => { acc := e.startPhase % e.step, gather := [] }) p.entries } := by
  refine congrArg (fun g => { p with entries := mapAt g p.entries }) ?_
  funext i x
  unfold startEntry
  cases c.entryAt i <;> rfl


/-- Settles O18: by whether the clock is stopped when the limit is reached. -/
theorem quietLimitStartsTheClock : Obligations.QuietLimitStartsTheClock := by
  intro c s hset
  simp only [exec, execQuietLimit, hset]
  refine congrArg Host.Outcome.next ?_
  split
  · refine State.ext_blocks ⟨rfl, rfl, rfl, ?_, ?_, rfl, ?_, rfl, rfl, rfl, rfl, rfl, rfl, rfl, rfl, rfl⟩
    · exact quietLimitTaken_bus s c
    · exact quietLimitTaken_time s c
    · exact (quietLimitTaken_pub s c).trans (Publisher.enterRun_eq c s.pub)
  · rfl

end Sys2Proof.Machine

/-! The limits that stand in the state, the samples that are due, and the frames that are not matching. -/

namespace Sys2Proof.Machine

/-! ## Limits reached -/

theorem StationRecord.overdue_iff (c : Settings) (now : Stamp) (r : StationRecord) : r.overdue c now = true ↔
    r.present = true ∧ c.rosterTimeout * 2 ^ c.period < (now - r.lastHeard).toNat := by
  rw [StationRecord.overdue, Bool.and_eq_true, decide_eq_true_iff]; rfl

theorem putAt_get {α : Type} {n : Nat} (v : Vector α n) (i : Fin n) : putAt v i (v.get i) = v := by
  refine vector_ext_get fun j => ?_
  rw [get_putAt]; split
  · next h => rw [h]
  · rfl

/-- R28–R30: the time state left; LOCK_LOST rises from LOCKED alone. -/
theorem leaveTo_eq (st : TimeState) (s : State) : leaveTo st s =
    if s.time.state = .locked then raise .lockLost { s with time := { s.time with state := st } }
    else { s with time := { s.time with state := st } } := by
  by_cases h : s.time.state = .locked <;> simp [leaveTo, raiseIf, h, State.setTime]

theorem exec_rosterExpiry {c : Settings} {s : State} (hset : s.settings = some c) (hrun : s.time.state ≠ .stopped)
    (station : Station) : exec (.rosterExpiry station) s = .next (replaceRoster c
      (putAt s.rx.roster (stationIndex station) ((s.rx.recordOf station).expire c s.time.clock)) s) := by
  simp only [exec, execRosterExpiry, hset, hrun, if_false, now_of_running hrun, Reception.recordOf]

/-- R30: the roster replaced, and the time state left where the last other station is lost. -/
theorem replaceRoster_eq (c : Settings) (roster : Vector StationRecord 32) (s : State) :
    let expired : State := { s with rx := { s.rx with roster := roster } }
    replaceRoster c roster s =
      if othersPresent c.station s.rx.roster = true ∧ othersPresent c.station roster = false then leaveTo .alone expired
      else expired := by
  simp only [replaceRoster, Bool.and_eq_true, Bool.not_eq_true']; rfl

/-- A roster put back as it stands changes nothing. -/
theorem replaceRoster_self (c : Settings) (s : State) : replaceRoster c s.rx.roster s = s := by
  rw [replaceRoster_eq, if_neg (by simp)]

/-- Settles O26: the window and each station's record, one by one. -/
theorem windowAndRosterExpire : Obligations.WindowAndRosterExpire := by
  refine ⟨fun c s hset => ?_, fun station c s hset hrun => ?_⟩
  · have hexec : exec .lockWindowExpiry s = .next (windowExpired c s) := by
      simp only [exec, execLockWindowExpiry, hset]
    rw [hexec, windowExpired, leaveTo_eq]
    by_cases h : s.time.state = .locked ∧ 16 ≤ s.time.lockTimer ∧ othersPresent c.station s.rx.roster = true
    · rw [if_pos h, if_pos h, if_pos h.1]
    · rw [if_neg h, if_neg h]
  · dsimp only
    rw [exec_rosterExpiry hset hrun, StationRecord.expire]
    by_cases h : (s.rx.recordOf station).overdue c s.time.clock = true
    · rw [if_pos h, if_pos ((StationRecord.overdue_iff ..).mp h), replaceRoster_eq, leaveTo_eq]
    · have hself : putAt s.rx.roster (stationIndex station) (s.rx.recordOf station) = s.rx.roster := putAt_get _ _
      rw [if_neg h, if_neg (mt (StationRecord.overdue_iff ..).mpr h), hself, replaceRoster_self]

/-- Settles O27: each limit by its own command. -/
theorem limitsReachedAct : Obligations.LimitsReachedAct := by
  refine ⟨fun s => ⟨?_, ?_, ?_⟩, fun c s hset => ⟨?_, ?_⟩⟩
  · simp [exec, execNoiseBucketFull, bucketJudged, raiseIf]
  · simp [exec, execFailureRunLimit, judgeFailureRun, raiseIf]
  · simp only [exec, execNoiseLeak, Reception.leakJudged, Config.leakTicks]; split <;> rfl
  · have hexec : exec .saturationRunLimit s = .next (saturationJudged c s) := by
      simp only [exec, execSaturationRunLimit, hset]
    rw [hexec, saturationJudged, raiseIf]
    simp only [decide_eq_true_eq]
  · have hexec : exec .beatDue s = .next (s.setPub (s.pub.beatJudged c)) := by
      simp only [exec, execBeatDue, hset]
    rw [hexec, Publisher.beatJudged]; split <;> rfl

/-! ## Samples -/

theorem putAt_putAt {α : Type} {n : Nat} (v : Vector α n) (i : Fin n) (a b : α) :
    putAt (putAt v i a) i b = putAt v i b := by
  refine vector_ext_get fun j => ?_
  simp only [get_putAt]; split <;> rfl

theorem Publisher.setEntry_setEntry (p : Publisher) (i : Fin 8) (x y : PublishState) :
    (p.setEntry i x).setEntry i y = p.setEntry i y := by
  simp only [Publisher.setEntry, putAt_putAt]

/-- The gather list ends with the sample that it has taken. -/
theorem gatherSample_getLast? (c : Settings) (e : PublishEntry) (gather : List Sample) (x : Sample) :
    (gatherSample c e gather x).getLast? = some x := by
  unfold gatherSample; split
  · rfl
  · split
    · exact List.getLast?_concat
    · rfl

/-- The publisher after a burst entry's list stands at `gather`, ending with a sample stamped `newest`. -/
def Publisher.judgeBurst (c : Settings) (i : Fin 8) (e : PublishEntry) (acc : Nat) (gather : List Sample)
    (newest : Stamp) (p : Publisher) : Publisher :=
  if e.burst ≤ gather.length then (p.setEntry i { acc := acc, gather := [] }).takeRequest c
    { tag := e.tag, values := gather.map (·.value), newest := newest, spacing := BitVec.ofNat 8 (e.step / 4) }
  else p.setEntry i { acc := acc, gather := gather }

theorem burstTaken_of_last {c : Settings} {i : Fin 8} {e : PublishEntry} (he : c.entryAt i = some e) {s : State}
    {y : Sample} (hy : (s.pub.entries.get i).gather.getLast? = some y) : burstTaken c i s =
      if 1 < e.burst ∧ e.burst ≤ (s.pub.entries.get i).gather.length then
        s.setPub ((s.pub.setEntry i { s.pub.entries.get i with gather := [] }).takeRequest c
          { tag := e.tag, values := (s.pub.entries.get i).gather.map (·.value), newest := y.stamp
            spacing := BitVec.ofNat 8 (e.step / 4) })
      else s := by
  simp only [burstTaken, he, hy]

theorem burstTaken_of_empty {c : Settings} {i : Fin 8} {s : State}
    (hy : (s.pub.entries.get i).gather.getLast? = none) : burstTaken c i s = s := by
  unfold burstTaken; rw [hy]; cases c.entryAt i <;> rfl

/-- R58: a burst entry whose list has just taken a sample. -/
theorem burstTaken_setEntry {c : Settings} {i : Fin 8} {e : PublishEntry} (he : c.entryAt i = some e)
    (hb : 1 < e.burst) (p : Publisher) {x : PublishState} {y : Sample} (hy : x.gather.getLast? = some y) (s : State) :
    burstTaken c i (s.setPub (p.setEntry i x)) = s.setPub (p.judgeBurst c i e x.acc x.gather y.stamp) := by
  have hx : ((s.setPub (p.setEntry i x)).pub.entries.get i) = x := get_putAt_self ..
  rw [burstTaken_of_last he (hx.symm ▸ hy), hx, Publisher.judgeBurst]
  simp only [hb, true_and, State.pub_setPub, Publisher.setEntry_setEntry]
  split <;> rfl

/-- R55–R59: the publisher after the sample of a due entry. -/
theorem sampleDue_eq {c : Settings} {i : Fin 8} {e : PublishEntry} (he : c.entryAt i = some e) (hb : 1 ≤ e.burst)
    (acc : Nat) (s : State) : sampleDue c i e acc s =
      let x := s.pub.entries.get i
      let value := toHalf (sourceValue c s e.source)
      s.setPub (if e.burst = 1 then
          (s.pub.setEntry i { x with acc := acc - e.step }).takeRequest c
            { tag := e.tag, values := [value], newest := s.time.lastTick, spacing := 0 }
        else s.pub.judgeBurst c i e (acc - e.step)
          (gatherSample c e x.gather { stamp := s.time.lastTick, value := value }) s.time.lastTick) := by
  unfold sampleDue
  dsimp only
  split
  · rfl
  · rename_i hone
    exact burstTaken_setEntry he (by omega) s.pub (x := ⟨_, _⟩) (gatherSample_getLast? ..) s

theorem exec_publishSample {c : Settings} {s : State} (hset : s.settings = some c) (i : Fin 8) :
    exec (.publishSample i) s = .next (sampleTaken c i s) := by
  simp only [exec, execPublishSample, hset]

theorem exec_burstComplete {c : Settings} {s : State} (hset : s.settings = some c) (i : Fin 8) :
    exec (.burstComplete i) s = .next (burstTaken c i s) := by
  simp only [exec, execBurstComplete, hset]

/-- Settles O28: by whether a sample is due, and what each request asks for. -/
theorem samplesAreTakenAndRequested : Obligations.SamplesAreTakenAndRequested := by
  intro i e c s hset he hb
  dsimp only
  refine ⟨?_, ?_⟩
  · rw [exec_publishSample hset]
    refine congrArg Host.Outcome.next ?_
    simp only [sampleTaken, he]
    by_cases hdue : e.step ≤ (s.pub.entries.get i).acc
    · rw [if_pos hdue, if_neg (Nat.not_lt.mpr hdue), sampleDue_eq he hb]
      dsimp only [Publisher.judgeBurst]
      rw [apply_ite s.setPub, apply_ite s.setPub]
      rfl
    · rw [if_neg hdue, if_pos (Nat.not_le.mp hdue)]
  · rw [exec_burstComplete hset]
    refine congrArg Host.Outcome.next ?_
    cases hy : (s.pub.entries.get i).gather.getLast? with
    | none => exact burstTaken_of_empty hy
    | some y => exact burstTaken_of_last he hy

/-- Settles O36: by the replaced record of the roster. -/
theorem noteRecordReachesTheRoster : Obligations.NoteRecordReachesTheRoster := by
  intro sender r c s hset
  have hexec : exec (.noteRecord sender r) s = .next
      (if s.loader.phase = .run ∧ sender ≠ c.station then noteTakenFrom c sender r s else s) := by
    simp only [exec, execNoteRecord, hset]
  rw [hexec]; rfl

end Sys2Proof.Machine

/-! The frames that are not matching, and what the slots take. -/

namespace Sys2Proof.Machine

/-- The line returned to quiet, block by block. -/
theorem lineHeardQuiet_eq (s : State) : lineHeardQuiet s =
    { s with line := { busy := false, abandoned := false }
             bus := { s.bus with wheel := if s.bus.tx = .ready ∨ s.bus.tx = .backoff then .gap else .stopped } } := by
  simp only [lineHeardQuiet, BusController.runsWheel_iff]; rfl

/-! ## Corrupted, twin and foreign frames -/

theorem State.judges_iff (s : State) :
    s.judges = true ↔ (s.loader.phase = .listen ∨ s.loader.phase = .run) ∧ s.line.abandoned = false := by
  simp [State.judges]

/-- A frame end at which this station is not sending, where the reception unit gives a verdict. -/
theorem exec_frameEnd_heard {c : Settings} {s : State} (hset : s.settings = some c) (htx : s.bus.tx ≠ .sending)
    (hphase : s.loader.phase = .listen ∨ s.loader.phase = .run) (hline : s.line.abandoned = false) (dt : Nat)
    (heard : Heard) (place : JumpTick) (order : TickOrder) : exec (.frameEnd dt heard place order) s =
      .next (lineHeardQuiet (judgeHeard c heard place order (s.advance dt))) := by
  have hphase' : (s.advance dt).loader.phase = s.loader.phase := by
    rw [advance_loader_eq, Loader.count]; split <;> rfl
  have hj : (s.advance dt).judges = true := (State.judges_iff _).mpr ⟨by rwa [hphase'], hline⟩
  have hbus : (s.advance dt).bus.tx ≠ .sending := htx
  simp only [exec, execFrameEnd, hset, frameEnded, hj, hbus, if_true, if_false]

/-- A frame end without a verdict. -/
theorem exec_frameEnd_unjudged {s : State} (h : s.settings = none ∨ (s.bus.tx ≠ .sending ∧
      (s.loader.phase = .load ∨ s.loader.phase = .off ∨ s.line.abandoned = true))) (dt : Nat)
    (heard : Heard) (place : JumpTick) (order : TickOrder) :
    exec (.frameEnd dt heard place order) s = .next (lineHeardQuiet (s.advance dt)) := by
  cases hset : s.settings with
  | none => simp only [exec, execFrameEnd, hset]
  | some c =>
    obtain h | ⟨htx, h⟩ := h
    · rw [hset] at h; cases h
    · have hphase' : (s.advance dt).loader.phase = s.loader.phase := by
        rw [advance_loader_eq, Loader.count]; split <;> rfl
      have hline : (s.advance dt).line = s.line := rfl
      have hj : (s.advance dt).judges = false := by
        rw [Bool.eq_false_iff, ne_eq, State.judges_iff, hphase', hline]
        rcases h with h | h | h <;> simp [h]
      have hbus : (s.advance dt).bus.tx ≠ .sending := htx
      simp only [exec, execFrameEnd, hset, frameEnded, hj, hbus, if_false]
      rfl

/-- R40: the noise bucket after a corrupted frame. -/
theorem corruptedFrame_eq (s : State) :
    let t : State := { s with
      rx := { s.rx with
        corrupted := min 65535 (s.rx.corrupted + 1)
        noiseBucket := if s.rx.noiseBucket < 16 then s.rx.noiseBucket + 1 else s.rx.noiseBucket }
      test := if s.test.state = .checking then s.test.countErrors 1 else s.test }
    corruptedFrame s = if s.rx.noiseBucket = 15 then raise .linkNoise t else t := by
  dsimp only
  unfold corruptedFrame fillBucket bucketJudged raiseIf
  by_cases h15 : s.rx.noiseBucket = 15
  · simp [h15]; rfl
  · by_cases h16 : s.rx.noiseBucket < 16
    · have hne : ¬s.rx.noiseBucket + 1 = 16 := by omega
      simp [h15, h16, hne]; rfl
    · simp [h15, h16]; rfl

/-- Settles O30: by whether the stretch is judged at all. -/
theorem corruptedFrameIsCountedIfJudged : Obligations.CorruptedFrameIsCountedIfJudged := by
  refine ⟨fun dt heard place order s h => ?_, fun dt heard place order c s hset htx hphase hline hread => ?_⟩
  · rw [exec_frameEnd_unjudged h, lineHeardQuiet_eq]; rfl
  · rw [exec_frameEnd_heard hset htx hphase hline, judgeHeard, hread]
    dsimp only
    rw [corruptedFrame_eq, lineHeardQuiet_eq]
    by_cases h15 : s.rx.noiseBucket = 15
    · rw [if_pos h15, if_pos (by simpa using h15)]; rfl
    · rw [if_neg h15, if_neg (by simpa using h15)]; rfl

/-- After a twin frame the bus controller does not run the wheel. -/
theorem twinFrame_quiets (s : State) : ¬((twinFrame s).bus.tx = .ready ∨ (twinFrame s).bus.tx = .backoff) := by
  rw [twinFrame_bus]; dsimp only; split <;> simp

/-- A controller made READY from BACKOFF runs the wheel as before. -/
theorem endBackoff_runs {tx : TxState} : ((if tx = .backoff then .ready else tx) = .ready ∨
    (if tx = .backoff then .ready else tx) = TxState.backoff) ↔ tx = .ready ∨ tx = .backoff := by
  cases tx <;> simp

/-- Settles O31: by the judgement of the header, in its order. -/
theorem twinAndForeignFramesAreFlagged : Obligations.TwinAndForeignFramesAreFlagged := by
  intro dt heard place order c f s hset htx hphase hline hread
  dsimp only
  rw [exec_frameEnd_heard hset htx hphase hline, judgeHeard, hread]
  refine ⟨fun hst => ?_, fun hst hper => ?_⟩
  · dsimp only
    rw [if_pos hst, lineHeardQuiet_eq, if_neg (twinFrame_quiets _)]
    rfl
  · dsimp only
    have hbus : (foreignFrame f.station (s.advance dt)).bus =
        { s.bus with tx := if s.bus.tx = .backoff then .ready else s.bus.tx } := rfl
    rw [if_neg hst, if_pos hper, lineHeardQuiet_eq, hbus]
    refine congrArg Host.Outcome.next (State.ext_blocks
      ⟨rfl, rfl, rfl, ?_, rfl, rfl, rfl, rfl, rfl, rfl, rfl, rfl, rfl, rfl, rfl, rfl⟩)
    simp only [endBackoff_runs]
    rfl

/-! ## The listen table -/

theorem isLate_iff (ring : List Sample) (stamp : Stamp) : isLate ring stamp = true ↔ ∃ y, ring.getLast? = some y ∧
    ¬(1 ≤ (stamp - y.stamp).toNat ∧ (stamp - y.stamp).toNat < 2 ^ 31) := by
  unfold isLate
  cases ring.getLast? with
  | none => simp
  | some y => simp only [Bool.not_eq_true', Option.some.injEq, exists_eq_left', ← later_iff, Bool.not_eq_true]

/-- R81–R83: one sample judged, with the comparisons of its stamp written out. -/
theorem takeSample_eq (bound : Stamp) (sender : Station) (slot : Slot) (x : Sample) :
    slot.takeSample bound sender x =
    if 1 ≤ (x.stamp - bound).toNat ∧ (x.stamp - bound).toNat < 2 ^ 31 then
      { slot with future := min 65535 (slot.future + 1) }
    else if ∃ y, slot.ring.getLast? = some y ∧
        ¬(1 ≤ (x.stamp - y.stamp).toNat ∧ (x.stamp - y.stamp).toNat < 2 ^ 31) then
      { slot with late := min 65535 (slot.late + 1) }
    else
      { slot with
        ring := (if slot.ring.length < 8 then slot.ring else slot.ring.tail) ++ [x]
        publisher := match slot.publisher with
          | none => some sender
          | some p => some p } := by
  unfold Slot.takeSample
  simp only [later_iff, isLate_iff]
  split_ifs
  · rfl
  · rfl
  all_goals cases hp : slot.publisher <;> simp_all [appendSample]

theorem deriveSamples_length (newest : Stamp) (us : Nat) (l : List Half) :
    (deriveSamples newest us l).length = l.length := by
  induction l with
  | nil => rfl
  | cons v l ih => rw [deriveSamples, List.length_cons, List.length_cons, ih]

/-- R80: the derived stamps, sample by sample. -/
theorem deriveSamples_getElem? (newest : Stamp) (us : Nat) {l : List Half} {j : Nat} {v : Half} (h : l[j]? = some v) :
    (deriveSamples newest us l)[j]? = some
      { stamp := newest - BitVec.ofNat 32 ((l.length - 1 - j) * us), value := v } := by
  induction l generalizing j with
  | nil => simp at h
  | cons w l ih =>
    cases j with
    | zero => obtain rfl : w = v := by simpa using h
              simp [deriveSamples]
    | succ j =>
      rw [List.getElem?_cons_succ] at h
      have hplace : (w :: l).length - 1 - (j + 1) = l.length - 1 - j := by rw [List.length_cons]; omega
      rw [deriveSamples, List.getElem?_cons_succ, ih h, hplace]

/-- R79: a slot that a record of a station clashes with. -/
theorem clashes_iff (slot : Slot) (sender : Station) : slot.clashes sender = true ↔
    slot.state ≠ .clash ∧ slot.publisher ≠ none ∧ slot.publisher ≠ some sender := by
  unfold Slot.clashes
  cases slot.publisher <;> simp

/-- Settles O35: by how a slot takes a sample, and the stamps that the spacing derives. -/
theorem tagRecordReachesItsSlot : Obligations.TagRecordReachesItsSlot := by
  refine ⟨fun sender r c s hset hrun hst huse => ?_, takeSample_eq, fun c r =>
    ⟨deriveSamples_length _ _ _, fun j v h => deriveSamples_getElem? _ _ h⟩⟩
  have hexec : exec (.tagRecord sender r) s = .next (tagTaken c sender r s) := by
    simp only [exec, execTagRecord, hset]
    rw [if_pos ⟨hrun, hst, huse⟩]
  rw [hexec, tagTaken]
  cases c.slotOf r.tag with
  | none => rfl
  | some k =>
    dsimp only
    by_cases hclash : (s.listen.get k).state = .clash
    · have hno : ¬(s.listen.get k).clashes sender = true := fun h => ((clashes_iff ..).mp h).1 hclash
      rw [if_pos hclash, raiseIf, if_neg hno, Slot.takeRecord, if_pos hclash, putAt_get]
      rfl
    · rw [if_neg hclash, raiseIf, Slot.takeRecord, if_neg hclash]
      by_cases hother : (s.listen.get k).publisher ≠ none ∧ (s.listen.get k).publisher ≠ some sender
      · have hyes := (clashes_iff ..).mpr ⟨hclash, hother⟩
        rw [if_pos hother, if_pos hyes, if_pos hyes]; rfl
      · have hno : ¬(s.listen.get k).clashes sender = true := fun h => hother ((clashes_iff ..).mp h).2
        rw [if_neg hother, if_neg hno, if_neg hno]; rfl

end Sys2Proof.Machine

/-! Measurement, the drive, the test unit and the requests, command by command. -/

namespace Sys2Proof.Machine

/-! ## Measurement -/

/-- The samples of one channel: an observation, then a judged sample. -/
theorem InputFilter.sample_observe (x y : Bool) (f : InputFilter) : (f.observe x).sample y =
    { prev := some y, level := if x = y then some y else f.level } := by
  simp [InputFilter.observe, InputFilter.sample]

/-- R120: the change of the count along the cycle of level pairs. -/
theorem countChange_eq (a b a' b' : Option Bool) :
    let order := [((some false, some false), (some true, some false)), ((some true, some false), (some true, some true)),
      ((some true, some true), (some false, some true)), ((some false, some true), (some false, some false))]
    countChange a b a' b' = if order.contains ((a, b), (a', b')) then 1
      else if order.contains ((a', b'), (a, b)) then -1 else 0 := by
  revert a b a' b'; decide

theorem illegalChange_iff (a b a' b' : Option Bool) : illegalChange a b a' b' = true ↔
    a ≠ none ∧ b ≠ none ∧ a' ≠ none ∧ b' ≠ none ∧ a' ≠ a ∧ b' ≠ b := by
  revert a b a' b'; decide

/-- A level once accepted stands. -/
theorem level_ne_none {x y : Bool} {l : Option Bool} (h : l ≠ none) : (if x = y then some y else l) ≠ none := by
  split <;> simp [h]

theorem add_step (n : BitVec 32) (up down : Prop) [Decidable up] [Decidable down] :
    n + (if up then 1 else if down then -1 else 0) = if up then n + 1 else if down then n - 1 else n := by
  split
  · rfl
  · split
    · exact (BitVec.sub_eq_add_neg n 1).symm
    · exact BitVec.add_zero n

/-- R119–R121: the two samples of an acceptance. -/
theorem sampleEncoder_observe (first second : EncSample) (s : State) :
    let levelA := if first.a = second.a then some second.a else s.meas.encA.level
    let levelB := if first.b = second.b then some second.b else s.meas.encB.level
    let before := (s.meas.encA.level, s.meas.encB.level)
    let after := (levelA, levelB)
    let order := [((some false, some false), (some true, some false)), ((some true, some false), (some true, some true)),
      ((some true, some true), (some false, some true)), ((some false, some true), (some false, some false))]
    let t : State := { s with meas := { s.meas with
      encA := { prev := some second.a, level := levelA }, encB := { prev := some second.b, level := levelB }
      count := if order.contains (before, after) then s.meas.count + 1
        else if order.contains (after, before) then s.meas.count - 1 else s.meas.count } }
    sampleEncoder second (observeEncoder first s) =
      if s.meas.encA.level ≠ none ∧ s.meas.encB.level ≠ none ∧ levelA ≠ s.meas.encA.level ∧
        levelB ≠ s.meas.encB.level ∧ (s.loader.phase = .listen ∨ s.loader.phase = .run) then raise .encoder t
      else t := by
  have hobs (x : Bool) (f : InputFilter) : (f.observe x).level = f.level := rfl
  unfold sampleEncoder observeEncoder
  simp only [State.meas_setMeas, InputFilter.sample_observe, hobs, countChange_eq, raiseIf, add_step]
  refine if_congr ?_ rfl rfl
  rw [Bool.and_eq_true, Bool.or_eq_true, decide_eq_true_iff, decide_eq_true_iff, illegalChange_iff]
  constructor
  · rintro ⟨⟨ha, hb, -, -, hA, hB⟩, hphase⟩; exact ⟨ha, hb, hA, hB, hphase⟩
  · rintro ⟨ha, hb, hA, hB, hphase⟩
    exact ⟨⟨ha, hb, level_ne_none ha, level_ne_none hb, hA, hB⟩, hphase⟩

theorem advance_phase (s : State) (us : Nat) : (s.advance us).loader.phase = s.loader.phase := by
  rw [advance_loader_eq, Loader.count]; split <;> rfl

/-- Settles O37: by the four phases of the encoder before and after. -/
theorem encoderCountsQuadratureSteps : Obligations.EncoderCountsQuadratureSteps := by
  intro dt first second s
  refine congrArg Host.Outcome.next (if_congr Iff.rfl rfl ?_)
  have h := sampleEncoder_observe first second (s.advance dt)
  simp only [advance_phase] at h
  exact h

/-- R124: the exchange is good. -/
theorem rateGood_iff (reference : Option (BitVec 4)) (w : BitVec 32) : rateGood reference w = true ↔
    (w.getLsbD 31 = true ∧ w.extractLsb' 0 8 = w.extractLsb' 24 8 + w.extractLsb' 16 8 + w.extractLsb' 8 8) ∧
      ∀ r, reference = some r → w.extractLsb' 24 4 = r + 1 := by
  rw [rateGood, Bool.and_eq_true, Bool.and_eq_true, rateCheckRight, decide_eq_true_iff]
  refine and_congr_right fun _ => ?_
  cases reference with
  | none => simp [countFollows]
  | some r => rw [countFollows, decide_eq_true_iff]; simp [rateCount]

theorem nextReference_eq (reference : Option (BitVec 4)) (w : BitVec 32) : nextReference reference w =
    if w.getLsbD 31 = true ∧ w.extractLsb' 0 8 = w.extractLsb' 24 8 + w.extractLsb' 16 8 + w.extractLsb' 8 8 then
      some (w.extractLsb' 24 4)
    else reference := by
  simp [nextReference, rateReady, rateCheckRight, rateCount]

/-- R127: a failed exchange grows the run, and raises SENSOR where it reaches 3. -/
theorem exchangeFailed_eq (s : State) :
    let failed : State := { s with meas := { s.meas with failureRun := min 255 (s.meas.failureRun + 1) } }
    exchangeFailed s = if 3 ≤ s.meas.failureRun + 1 then raise .sensor failed else failed := by
  have hrun : (3 ≤ min 255 (s.meas.failureRun + 1)) = (3 ≤ s.meas.failureRun + 1) := propext (by omega)
  simp only [exchangeFailed, judgeFailureRun, raiseIf, decide_eq_true_eq, State.meas_setMeas, satAdd, hrun]
  rfl

/-- Settles O38: by the verdict on the exchange. -/
theorem exchangeIsJudged : Obligations.ExchangeIsJudged := by
  refine ⟨fun dt w s => ?_, fun dt s => rfl⟩
  refine congrArg Host.Outcome.next ?_
  by_cases hex : s.meas.exchange = .exchanging
  · rw [if_pos hex, if_neg (not_not.mpr hex), exchangeCompleted, exchangeFailed_eq, nextReference_eq]
    refine if_congr (rateGood_iff ..) rfl rfl
  · rw [if_neg hex, if_pos hex]

/-! ## The drive -/

theorem State.armConditions_iff (s : State) : s.armConditions = true ↔
    s.drive.stop.asserted = false ∧ s.drive.attn.asserted = false ∧ s.fault.flags &&& s.stopRoutes = 0 ∧
      s.test.state ≠ .sending ∧ s.test.state ≠ .checking := by
  simp [State.armConditions, and_assoc]

/-- Settles O41: by the drive state. -/
theorem armAndDisarmAreTaken : Obligations.ArmAndDisarmAreTaken := by
  intro s
  refine ⟨?_, ?_⟩
  · simp only [exec, execArm, armTaken, State.armConditions_iff]
    by_cases hrun : s.loader.phase = .run
    · rw [if_pos hrun, if_neg (not_not.mpr hrun)]
      cases s.drive.state <;> rfl
    · rw [if_neg hrun, if_pos hrun]
  · simp only [exec, execDisarm, disarmTaken]
    by_cases hrun : s.loader.phase = .run
    · rw [if_pos hrun, if_neg (not_not.mpr hrun)]
      cases s.drive.state <;> rfl
    · rw [if_neg hrun, if_pos hrun]

/-- Two equal samples bring a line filter to their level. -/
theorem LineFilter.sample_sample (level : Bool) (f : LineFilter) :
    (f.sample level).sample level = { prev := some level, asserted := level } := by
  simp [LineFilter.sample]

/-- R140: the entry to COAST or DISARMED at a line's level. -/
theorem senseStop_eq (level : Bool) (s : State) : senseStop level s =
    if s.drive.stop.asserted = level then
      { s with drive := { s.drive with stop := { prev := some level, asserted := level } } }
    else if level then stopAsserted { s with drive := { s.drive with stop := { prev := some level, asserted := level } } }
    else stopReleased { s with drive := { s.drive with stop := { prev := some level, asserted := level } } } := by
  rw [senseStop, LineFilter.sample_sample]; rfl

/-- Settles O42: by the level that is sensed, then the drive state. -/
theorem stopLineActsOnTheDrive : Obligations.StopLineActsOnTheDrive := by
  intro dt s
  dsimp only
  refine ⟨congrArg Host.Outcome.next (if_congr Iff.rfl rfl ?_), congrArg Host.Outcome.next (if_congr Iff.rfl rfl ?_)⟩
  · have hstop : (s.advance dt).drive.stop = s.drive.stop := rfl
    have hstate : (s.advance dt).drive.state = s.drive.state := rfl
    have hset : (s.advance dt).settings = s.settings := rfl
    rw [senseStop_eq, hstop]
    cases ha : s.drive.stop.asserted
    · rw [if_neg Bool.false_ne_true, if_pos rfl, stopAsserted]
      dsimp only
      rw [hset, hstate]
      cases hs : s.drive.state
      case active =>
        rw [if_pos ⟨rfl, rfl⟩]
        cases s.settings with
        | none => rfl
        | some c => dsimp only; cases c.stopAction <;> rfl
      all_goals rw [if_neg (by simp)]
    · rw [if_pos rfl, if_neg (by simp)]
  · have hstop : (s.advance dt).drive.stop = s.drive.stop := rfl
    have hstate : (s.advance dt).drive.state = s.drive.state := rfl
    rw [senseStop_eq, hstop]
    cases ha : s.drive.stop.asserted
    · rw [if_pos rfl, if_neg (by simp)]
    · rw [if_neg (by simp), if_neg Bool.false_ne_true, stopReleased]
      dsimp only
      rw [hstate]
      cases hs : s.drive.state
      case coast => rfl
      all_goals rw [if_neg (by simp)]

theorem senseAttn_eq (level : Bool) (s : State) : senseAttn level s =
    if s.drive.attn.asserted = level then
      { s with drive := { s.drive with attn := { prev := some level, asserted := level } } }
    else if level then attnAsserted { s with drive := { s.drive with attn := { prev := some level, asserted := level } } }
    else { s with drive := { s.drive with attn := { prev := some level, asserted := level } } } := by
  rw [senseAttn, LineFilter.sample_sample]; rfl

/-- Settles O43: by the level that is sensed, then the drive state. -/
theorem drvAttnActsOnTheDrive : Obligations.DrvAttnActsOnTheDrive := by
  intro dt s
  dsimp only
  have hattn : (s.advance dt).drive.attn = s.drive.attn := rfl
  have hstate : (s.advance dt).drive.state = s.drive.state := rfl
  refine ⟨congrArg Host.Outcome.next (if_congr Iff.rfl rfl ?_), congrArg Host.Outcome.next (if_congr Iff.rfl rfl ?_)⟩
  · rw [senseAttn_eq, hattn]
    cases ha : s.drive.attn.asserted
    · rw [if_neg Bool.false_ne_true, if_pos rfl, if_neg Bool.false_ne_true, attnAsserted]
      dsimp only
      rw [hstate]
      cases hs : s.drive.state
      case active | hold => rfl
      all_goals rw [if_neg (by simp)]
    · rw [if_pos rfl, if_pos rfl]
  · rw [senseAttn_eq, if_neg Bool.false_ne_true, ite_self]

/-- R148: the setting applied at the start of a period. -/
theorem DriveUnit.applySetting_eq (d : DriveUnit) :
    let driving := d.state = .active ∨ d.state = .hold
    d.applySetting = { d with
      pendingSetting := none
      duty := match d.pendingSetting with
        | some x => if driving ∧ x.state = d.state then x.effort.natAbs * 4000 / 32767 else d.duty
        | none => d.duty
      direction := match d.pendingSetting with
        | some x => if driving ∧ x.state = d.state then decide (0 ≤ x.effort) else d.direction
        | none => d.direction } := by
  unfold DriveUnit.applySetting
  cases hp : d.pendingSetting with
  | none => cases d; simp_all
  | some x =>
    simp only [eq_comm (a := x.state)]
    split <;> rfl

/-- R147: the outputs at the start of a period. -/
theorem DriveUnit.beginPeriod_eq (d : DriveUnit) :
    let driving := d.state = .active ∨ d.state = .hold
    d.beginPeriod = { d with
      pwmTimer := some 0
      drvPwm := if driving then decide (0 < d.duty) else d.drvPwm
      drvDir := if driving then d.direction else d.drvDir } := by
  dsimp only
  unfold DriveUnit.beginPeriod
  split <;> rfl

/-- Settles O44: by the equations of a period's start and of its on-time end. -/
theorem pwmPeriodIsDriven : Obligations.PwmPeriodIsDriven := by
  intro dt s
  refine ⟨congrArg Host.Outcome.next (if_congr Iff.rfl rfl ?_), congrArg Host.Outcome.next (if_congr Iff.rfl rfl ?_)⟩
  · rw [DriveUnit.beginPeriod_eq, DriveUnit.applySetting_eq]
    rfl
  · rw [DriveUnit.endOnTime]
    have hduty : (s.advance dt).drive.duty = s.drive.duty := rfl
    rw [hduty]
    split <;> rfl

/-! ## Tests -/

/-- Settles O45: by the loader's phase, then the drive state. -/
theorem testStartsAndStops : Obligations.TestStartsAndStops := by
  intro sender count origin c s hset
  have hstart : exec (.testStart sender count origin) s =
      .next (if s.loader.phase = .run then testStartTaken c sender count s else s) := by
    simp only [exec, execTestStart, hset]
  have hstop : exec (.testStop sender) s =
      .next (if s.loader.phase = .run then testStopTaken c sender s else s) := by
    simp only [exec, execTestStop, hset]
  refine ⟨?_, ?_⟩
  · rw [hstart, testStartTaken]
    by_cases hrun : s.loader.phase = .run
    · rw [if_pos hrun, if_neg (not_not.mpr hrun)]
      cases s.drive.state <;> rfl
    · rw [if_neg hrun, if_pos hrun]
  · rw [hstop, testStopTaken, ← ite_and]
    rfl

theorem TestUnit.running_iff (t : TestUnit) : t.running = true ↔ t.state = .sending ∨ t.state = .checking := by
  simp [TestUnit.running]

/-- R190: the pulse that begins where a test runs, one is owed and none is in progress. -/
theorem TestUnit.startPulse_eq (t : TestUnit) :
    let starts := (t.state = .sending ∨ t.state = .checking) ∧ 0 < t.owed ∧ t.pulse = .none
    t.startPulse = { t with pulse := if starts then .low else t.pulse, pass := if starts then false else t.pass } := by
  dsimp only
  rw [TestUnit.startPulse]
  simp only [TestUnit.running_iff]
  split <;> rfl

/-- R189: the quiet timer's end of a test. -/
theorem TestUnit.countErrors_finish (t : TestUnit) : (t.countErrors 1).finish =
    { t with errors := min 65535 (t.errors + 1), state := .done, result := false, pass := false, owed := 0
             pulse := .none, due := false } := by
  have hpos : min 65535 (t.errors + 1) ≠ 0 := by omega
  simp [TestUnit.finish, satAdd, hpos]

/-- Settles O46: at the pulse, at its half and at a block, by the test state. -/
theorem testErrorsAreCounted : Obligations.TestErrorsAreCounted := by
  refine ⟨fun n t => ?_, fun dt s => ⟨?_, ?_⟩, fun sender b c s hset => ?_⟩
  · exact TestUnit.startPulse_eq _
  · refine congrArg (fun t => Host.Outcome.next ((s.advance dt).setTest t)) ?_
    rw [TestUnit.endHalf]
    cases s.test.pulse
    · rfl
    · rfl
    · dsimp only
      rw [TestUnit.startPulse_eq]
      simp only [and_true]
      split <;> rfl
  · simp only [exec, execTestQuietTimeout, TestUnit.quietJudged, TestUnit.countErrors_finish]
    split <;> rfl
  · have hexec : exec (.testBlock sender b) s = .next
        (if s.loader.phase = .run ∧ sender ≠ c.station ∧ b.usable then s.setTest (s.test.takeBlock sender b) else s) := by
      simp only [exec, execTestBlock, hset]
    have huse : b.usable = true ↔ b.pattern.length = 32 := by simp [TestBlock.usable]
    rw [hexec, TestUnit.takeBlock]
    refine congrArg Host.Outcome.next ?_
    by_cases hto : s.loader.phase = .run ∧ sender ≠ c.station ∧ b.usable = true
    · obtain ⟨hrun, hother, hb⟩ := id hto
      rw [if_pos hto]
      by_cases hcheck : s.test.state = .checking ∧ sender = s.test.sender
      · rw [if_pos hcheck]
        exact (if_pos ⟨hrun, hother, huse.mp hb, hcheck⟩).symm
      · rw [if_neg hcheck]
        exact (if_neg fun ⟨_, _, _, h⟩ => hcheck h).symm
    · rw [if_neg hto]
      exact (if_neg fun ⟨hrun, hother, hb, _⟩ => hto ⟨hrun, hother, huse.mpr hb⟩).symm

/-! ## Requests -/

/-- The request that an accepted falling edge makes, where the input is used and the part is in LISTEN or RUN (R170). -/
def State.edgeRequest (s : State) (i : Fin 4) : Option PendingRequest :=
  match s.settings with
  | none => none
  | some c =>
    match (c.inputs.get i).kind with
    | none => none
    | some k =>
      if s.loader.phase = .listen ∨ s.loader.phase = .run then some ((c.inputs.get i).request i c.station k) else none

/-- R171: the pending list after the request, if any, of an edge on an input. -/
def joinEdge (request : Fin 4 → Option PendingRequest) (list : List PendingRequest) (i : Fin 4) : List PendingRequest :=
  if ∀ r ∈ list, r.input ≠ i then list ++ (request i).toList else list

theorem joinList_eq (list : List PendingRequest) (r : PendingRequest) : joinList list r =
    if ∀ x ∈ list, x.input ≠ r.input then list ++ [r] else list := by
  unfold joinList
  by_cases h : ∀ x ∈ list, x.input ≠ r.input
  · rw [if_pos h, if_neg]; simpa using h
  · rw [if_neg h, if_pos]; simpa using h

theorem edgeTaken_eq (i : Fin 4) (s : State) :
    edgeTaken i s = s.setReq { s.req with list := joinEdge s.edgeRequest s.req.list i } := by
  unfold edgeTaken joinEdge State.edgeRequest
  cases s.settings with
  | none => simp [State.setReq]
  | some c =>
    dsimp only
    cases (c.inputs.get i).kind with
    | none => simp [State.setReq]
    | some k =>
      dsimp only
      split
      · rw [joinList_eq]; rfl
      · simp [State.setReq]

/-- The edges of one sample, in order. -/
theorem foldl_edgeTaken (l : List (Fin 4)) (s : State) : l.foldl (fun t i => edgeTaken i t) s =
    s.setReq { s.req with list := l.foldl (joinEdge s.edgeRequest) s.req.list } := by
  induction l generalizing s with
  | nil => rfl
  | cons i l ih =>
    rw [List.foldl_cons, List.foldl_cons, edgeTaken_eq, ih]
    rfl

theorem InputFilter.falls_observe (x y : Bool) (f : InputFilter) : (f.observe x).falls y = true ↔
    f.level = some true ∧ (if x = y then some y else f.level) = some false := by
  rw [InputFilter.falls, InputFilter.sample_observe, Bool.and_eq_true, decide_eq_true_iff, decide_eq_true_iff]
  rfl

/-- The accepted level of each input after an acceptance's two samples (R169). -/
def RequestUnit.levelAfter (first second : BitVec 4) (r : RequestUnit) (i : Fin 4) : Option Bool :=
  if first.getLsbD i.val = second.getLsbD i.val then some (second.getLsbD i.val) else (r.inputs.get i).level

theorem observeInputs_get (first : BitVec 4) (s : State) (i : Fin 4) :
    (observeInputs first s).req.inputs.get i = (s.req.inputs.get i).observe (first.getLsbD i.val) := get_mapAt ..

/-- R169: the filters after the two samples. -/
theorem sampledInputs (first second : BitVec 4) (s : State) :
    mapAt (fun i f => f.sample (second.getLsbD i.val)) (observeInputs first s).req.inputs =
      Vector.ofFn fun i => { prev := some (second.getLsbD i.val), level := s.req.levelAfter first second i } := by
  refine vector_ext_get fun i => ?_
  rw [get_mapAt, observeInputs_get, InputFilter.sample_observe, get_ofFn]
  rfl

/-- R169, R170: the falling edges of the second sample join the list in increasing order of input. -/
theorem foldl_fallingAt {β : Type} (first second : BitVec 4) (s : State) (g : β → Fin 4 → β) (b : β) :
    ((observeInputs first s).req.fallingAt second).foldl g b = [0, 1, 2, 3].foldl (fun b i =>
      if (s.req.inputs.get i).level = some true ∧ s.req.levelAfter first second i = some false then g b i else b) b := by
  rw [RequestUnit.fallingAt, List.foldl_filter]
  simp only [observeInputs_get, InputFilter.falls_observe]
  rfl

/-- The two samples of an acceptance at the four inputs. -/
theorem sampleInputs_observe (first second : BitVec 4) (s : State) :
    sampleInputs second (observeInputs first s) = { s with req := { s.req with
      inputs := Vector.ofFn fun i => { prev := some (second.getLsbD i.val), level := s.req.levelAfter first second i }
      list := [0, 1, 2, 3].foldl (fun list i =>
        if (s.req.inputs.get i).level = some true ∧ s.req.levelAfter first second i = some false then
          joinEdge s.edgeRequest list i
        else list) s.req.list } } := by
  rw [sampleInputs, foldl_edgeTaken, sampledInputs, foldl_fallingAt]
  rfl

theorem foldl_congr_fun {α β : Type} {f g : β → α → β} (h : ∀ b a, f b a = g b a) (b : β) (l : List α) :
    l.foldl f b = l.foldl g b := by
  rw [show f = g from funext fun b => funext (h b)]

/-- The request of an edge, field by field. -/
theorem State.edgeRequest_eq (s : State) (i : Fin 4) : s.edgeRequest i = match s.settings with
    | none => none
    | some c =>
      let x := c.inputs.get i
      match x.kind with
      | none => none
      | some k =>
        if s.loader.phase = .listen ∨ s.loader.phase = .run then
          some { input := i, kind := k, origin := c.station
                 mask := if k = .testStart ∨ k = .testStop then x.mask ||| stationBit x.sender else x.mask
                 sender := if k = .testStart ∨ k = .testStop then x.sender else 0
                 count := if k = .testStart then x.count else 0 }
        else none := by
  unfold State.edgeRequest
  cases s.settings with
  | none => rfl
  | some c =>
    dsimp only
    cases (c.inputs.get i).kind with
    | none => rfl
    | some k => cases k <;> rfl

theorem advance_edgeRequest (s : State) (us : Nat) (i : Fin 4) : (s.advance us).edgeRequest i = s.edgeRequest i := by
  unfold State.edgeRequest; simp only [advance_phase]; rfl

/-- Settles O47: both commands are the same two samples. -/
theorem requestInputsMakeRequests : Obligations.RequestInputsMakeRequests := by
  intro dt first second s
  have h := sampleInputs_observe first second (s.advance dt)
  dsimp only
  refine ⟨congrArg Host.Outcome.next (if_congr Iff.rfl rfl (h.trans ?_)),
    congrArg Host.Outcome.next (if_congr Iff.rfl rfl (h.trans ?_))⟩
  all_goals
    refine congrArg (s.advance dt).setReq (congrArg (fun list => RequestUnit.mk
      (Vector.ofFn fun i => { prev := some (second.getLsbD i.val), level := s.req.levelAfter first second i })
      list s.req.statusPending s.req.refused s.req.lastRefused) (foldl_congr_fun (fun list i => ?_) _ _))
    rw [joinEdge, advance_edgeRequest, State.edgeRequest_eq, ← ite_and]
    simp only [and_assoc]
    rfl

/-- R164, R165: the flags that a CLEAR leaves, flag by flag. -/
theorem hasFlag_clearKeeps (run : Nat) (hi lo attn : Bool) (f : Flag) : hasFlag (clearKeeps run hi lo attn) f =
    match f with
    | .config | .twin => true
    | .sensor => decide (run ≠ 0)
    | .limit => hi || lo
    | .driveAttn => attn
    | .clash | .feedLost | .lockLost | .period | .linkNoise | .contention | .encoder | .saturation | .remote => false := by
  have hif (b : Prop) [Decidable b] (g : Flag) (m : FlagSet) :
      hasFlag (if b then m else 0) g = (decide b && hasFlag m g) := by by_cases hb : b <;> simp [hb]
  have hifn (b : Prop) [Decidable b] (g : Flag) (m : FlagSet) :
      hasFlag (if b then 0 else m) g = (!decide b && hasFlag m g) := by by_cases hb : b <;> simp [hb]
  simp only [clearKeeps, hasFlag_or, hif, hifn, hasFlag_single]
  cases f <;> simp

/-- Settles O48: by the loader's phase. -/
theorem clearAndQueryAreTaken : Obligations.ClearAndQueryAreTaken := by
  intro s
  refine ⟨fun hrun => ⟨?_, ?_⟩, fun hrun => ⟨?_, clearTaken s, ?_, ?_, fun f => ?_, rfl, rfl, fun k => ?_⟩⟩
  · exact congrArg Host.Outcome.next (if_neg hrun)
  · exact congrArg Host.Outcome.next (if_neg hrun)
  · exact congrArg Host.Outcome.next (if_pos hrun)
  · exact congrArg Host.Outcome.next (if_pos hrun)
  · rfl
  · exact (hasFlag_and f _ _).trans (congrArg _ (hasFlag_clearKeeps ..))
  · rw [clearTaken_listen, get_mapAt]; rfl

end Sys2Proof.Machine

/-! What an operation of the tick raises: several flags rise at one instant as one set would (R152, R155–R157), and an
operation raises no flag but those of its list (`Raises`). -/

namespace Sys2Proof.Machine

/-! ## A set of flags that rises at one instant -/

/-- The flags of `new` rise together. -/
def FaultUnit.raiseAll (stop note : FlagSet) (now : Stamp) (new : FlagSet) (u : FaultUnit) : FaultUnit :=
  { u.joinNote (new &&& note) now with
    flags := u.flags ||| new
    faultPin := if new = 0 then u.faultPin else false
    stopPull := if new = 0 then u.stopPull else decide ((u.flags ||| new) &&& stop ≠ 0) }

variable {stop note : FlagSet} {now : Stamp}

@[simp] theorem FaultUnit.joinNote_zero (u : FaultUnit) : u.joinNote 0 now = u := rfl

@[simp] theorem FaultUnit.raiseAll_zero (u : FaultUnit) : u.raiseAll stop note now 0 = u := by
  simp [FaultUnit.raiseAll, FaultUnit.joinNote]

/-- The note is joined alike whatever the flags and the pins. -/
theorem FaultUnit.joinNote_with (rising flags : FlagSet) (pin pull : Bool) (u : FaultUnit) :
    ({ u with flags := flags, faultPin := pin, stopPull := pull } : FaultUnit).joinNote rising now =
      { u.joinNote rising now with flags := flags, faultPin := pin, stopPull := pull } := by
  unfold FaultUnit.joinNote
  split
  · rfl
  · split
    · rfl
    · split <;> rfl

/-- One flag that is clear rises as the set of it alone; a flag that is set rises as the empty set. -/
theorem FaultUnit.raise_eq_raiseAll (f : Flag) (u : FaultUnit) : u.raise stop note now f =
    u.raiseAll stop note now (if hasFlag u.flags f then 0 else f.single) := by
  unfold FaultUnit.raise
  split
  · rw [FaultUnit.raiseAll_zero]
  · have h := FaultUnit.joinNote_with (now := now) (f.single &&& note) (u.flags ||| f.single) u.faultPin u.stopPull u
    rw [h]
    simp [FaultUnit.drivePins, FaultUnit.raiseAll]

/-- Two sets join the note at one instant as their union does. -/
theorem FaultUnit.joinNote_joinNote (a b : FlagSet) (u : FaultUnit) :
    (u.joinNote a now).joinNote b now = u.joinNote (a ||| b) now := by
  by_cases ha : a = 0#14
  · simp [FaultUnit.joinNote, ha]
  · by_cases hb : b = 0#14
    · simp [FaultUnit.joinNote, hb]
    · cases hf : u.noteInFlight <;> cases hp : u.notePending <;>
        simp [FaultUnit.joinNote, ha, hb, hf, hp, BitVec.or_assoc]

/-- Two sets that rise at one instant rise as their union does. -/
theorem FaultUnit.raiseAll_raiseAll (a b : FlagSet) (u : FaultUnit) :
    (u.raiseAll stop note now a).raiseAll stop note now b = u.raiseAll stop note now (a ||| b) := by
  have hjoin : (a ||| b) &&& note = (a &&& note) ||| (b &&& note) := flagSet_ext fun f => by
    simp [Bool.and_or_distrib_right]
  have h := FaultUnit.joinNote_with (now := now) (b &&& note) (u.flags ||| a)
    (if a = 0 then u.faultPin else false)
    (if a = 0 then u.stopPull else decide ((u.flags ||| a) &&& stop ≠ 0)) (u.joinNote (a &&& note) now)
  unfold FaultUnit.raiseAll
  rw [h, FaultUnit.joinNote_joinNote, hjoin]
  by_cases ha : a = 0#14 <;> by_cases hb : b = 0#14 <;> simp [ha, hb, BitVec.or_assoc]

/-! ## The flags that an operation raises -/

/-- From `s` to `t` the clock runs and stands still, the settings stand, and the fault unit has taken, at this instant,
a set of flags that were clear, all of them in the list. -/
structure Raises (allowed : List Flag) (s t : State) : Prop where
  settings : t.settings = s.settings
  clock : t.time.clock = s.time.clock
  ran : s.time.state ≠ .stopped
  runs : t.time.state ≠ .stopped
  fault : ∃ new, (∀ f, hasFlag new f = true → f ∈ allowed ∧ hasFlag s.fault.flags f = false) ∧
    t.fault = s.fault.raiseAll s.stopRoutes s.noteRoutes s.time.clock new

variable {allowed : List Flag} {s t u : State}

/-- An operation that leaves the fault unit, or raises one flag of the list where a condition holds. -/
theorem Raises.of_raiseIf (b : Bool) {f : Flag} (hf : f ∈ allowed) (hset : t.settings = s.settings)
    (hclock : t.time.clock = s.time.clock) (hs : s.time.state ≠ .stopped) (ht : t.time.state ≠ .stopped)
    (hfault : t.fault = (raiseIf b f s).fault) : Raises allowed s t := by
  refine ⟨hset, hclock, hs, ht, if b && !hasFlag s.fault.flags f then f.single else 0, fun g hg => ?_, ?_⟩
  · split at hg
    · rename_i h
      obtain rfl : f = g := by simpa using hg
      exact ⟨hf, by simpa using (Bool.and_eq_true_iff.mp h).2⟩
    · simp at hg
  · rw [hfault, raiseIf_fault, now_of_running hs, FaultUnit.raise_eq_raiseAll]
    cases b
    · exact (FaultUnit.raiseAll_zero _).symm
    · cases hasFlag s.fault.flags f <;> rfl

theorem Raises.of_fault (hset : t.settings = s.settings) (hclock : t.time.clock = s.time.clock)
    (hs : s.time.state ≠ .stopped) (ht : t.time.state ≠ .stopped) (hfault : t.fault = s.fault) : Raises allowed s t :=
  ⟨hset, hclock, hs, ht, 0, fun f hf => absurd hf (by simp), by rw [hfault, FaultUnit.raiseAll_zero]⟩

theorem Raises.hasFlag_iff (h : Raises allowed s t) {g : Flag} (hg : g ∉ allowed) :
    hasFlag t.fault.flags g = hasFlag s.fault.flags g := by
  obtain ⟨new, hnew, hfault⟩ := h.fault
  have hno : hasFlag new g = false := by
    rw [Bool.eq_false_iff]; exact fun h => hg (hnew g h).1
  rw [hfault, FaultUnit.raiseAll, hasFlag_or, hno, Bool.or_false]

theorem Raises.trans (h : Raises allowed s t) (h' : Raises allowed t u) : Raises allowed s u := by
  obtain ⟨a, ha, hta⟩ := h.fault
  obtain ⟨b, hb, hub⟩ := h'.fault
  refine ⟨h'.settings.trans h.settings, h'.clock.trans h.clock, h.ran, h'.runs, a ||| b, fun f hf => ?_, ?_⟩
  · rw [hasFlag_or, Bool.or_eq_true] at hf
    rcases hf with hf | hf
    · exact ha f hf
    · obtain ⟨hmem, hclear⟩ := hb f hf
      rw [hta, FaultUnit.raiseAll, hasFlag_or, Bool.or_eq_false_iff] at hclear
      exact ⟨hmem, hclear.1⟩
  · rw [hub, stopRoutes_congr h.settings, noteRoutes_congr h.settings, h.clock, hta, FaultUnit.raiseAll_raiseAll]

theorem Raises.mono {wider : List Flag} (h : Raises allowed s t) (hw : ∀ f ∈ allowed, f ∈ wider) : Raises wider s t := by
  obtain ⟨new, hnew, hfault⟩ := h.fault
  exact ⟨h.settings, h.clock, h.ran, h.runs, new, fun f hf => ⟨hw f (hnew f hf).1, (hnew f hf).2⟩, hfault⟩

/-- The flags that are new after an operation, and what they do to the fault unit. -/
theorem Raises.fault_eq (h : Raises allowed s t) :
    let new := t.fault.flags &&& ~~~s.fault.flags
    t.fault = s.fault.raiseAll s.stopRoutes s.noteRoutes s.time.clock new := by
  obtain ⟨new, hnew, hfault⟩ := h.fault
  have hflags : t.fault.flags &&& ~~~s.fault.flags = new := flagSet_ext fun f => by
    have hnot : hasFlag (~~~s.fault.flags) f = !hasFlag s.fault.flags f := by
      cases f <;> simp [hasFlag, Flag.bit]
    rw [hfault, hasFlag_and, hnot, FaultUnit.raiseAll, hasFlag_or]
    cases hf : hasFlag new f
    · simp
    · simp [(hnew f hf).2]
  rw [hflags]
  exact hfault

/-! ## The operations of the tick -/

/-- R28–R30: LOCK_LOST where the state left was LOCKED. -/
theorem leaveTo_fault (st : TimeState) (hst : st ≠ .stopped) (s : State) : (leaveTo st s).fault =
    (raiseIf (decide (s.time.state = .locked)) .lockLost s).fault := by
  rw [leaveTo_eq]
  by_cases h : s.time.state = .locked
  · rw [if_pos h, decide_eq_true h]
    have hnow : State.now { s with time := { s.time with state := st } } = s.now := by
      rw [now_of_running hst, now_of_running (by simp [h])]
    rw [raiseIf_true, raise_fault, raise_fault, hnow]
    rfl
  · rw [if_neg h, decide_eq_false h]; rfl

/-- R29: LOCK_LOST where the window ends with another station present. -/
theorem windowTick_fault (c : Settings) (s : State) : (windowTick c s).fault =
    (raiseIf (decide (s.time.state = .locked ∧ s.time.lockTimer = 15 ∧ othersPresent c.station s.rx.roster = true))
      .lockLost s).fault := by
  unfold windowTick windowExpired
  by_cases hlocked : s.time.state = .locked
  · by_cases hw : s.time.lockTimer = 15 ∧ othersPresent c.station s.rx.roster = true
    · have h16 : s.time.lockTimer < Config.lockWindow := by simp [hw.1]
      have hend : s.time.state = .locked ∧ Config.lockWindow ≤ s.time.lockTimer + 1 ∧
          othersPresent c.station s.rx.roster = true := ⟨hlocked, by simp [hw.1], hw.2⟩
      rw [if_pos ⟨hlocked, h16⟩, decide_eq_true ⟨hlocked, hw⟩]
      refine (congrArg State.fault (if_pos hend)).trans ?_
      rw [leaveTo_fault _ (by simp)]
      simp only [State.time_setTime, hlocked, decide_true, raiseIf_true]
      rw [raise_fault, raise_fault, now_of_running (by simp), now_of_running (by simp [hlocked])]
      rfl
    · rw [decide_eq_false fun h => hw h.2, raiseIf_false]
      split
      · rename_i h16
        obtain ⟨-, h16⟩ := h16
        rw [if_neg]
        · rfl
        · rintro ⟨-, hge, ho⟩
          exact hw ⟨by simp only [State.time_setTime, Config.lockWindow] at hge h16; omega, ho⟩
      · rfl
  · rw [if_neg fun h => hlocked h.1, decide_eq_false fun h => hlocked h.1, raiseIf_false]

/-- R30: LOCK_LOST where the last other station is lost. -/
theorem replaceRoster_fault (c : Settings) (roster : Vector StationRecord 32) (s : State) :
    (replaceRoster c roster s).fault = (raiseIf (decide (s.time.state = .locked ∧
      othersPresent c.station s.rx.roster = true ∧ othersPresent c.station roster = false)) .lockLost s).fault := by
  rw [replaceRoster_eq]
  dsimp only
  split
  · rename_i h
    rw [leaveTo_fault _ (by simp), raiseIf_fault, raiseIf_fault]
    simp only [h, and_true]
    rfl
  · rename_i h
    rw [decide_eq_false fun h' => h h'.2]; rfl

theorem Raises.raiseIf (b : Bool) {f : Flag} (hf : f ∈ allowed) (hs : s.time.state ≠ .stopped) :
    Raises allowed s (raiseIf b f s) :=
  .of_raiseIf b hf (by simp) (by simp) hs (by simpa using hs) rfl

theorem windowTick_raises (c : Settings) (hs : s.time.state ≠ .stopped) : Raises [.lockLost] s (windowTick c s) :=
  .of_raiseIf _ List.mem_cons_self (by simp) (by simp) hs (windowTick_runs c s hs) (windowTick_fault c s)

theorem rosterTick_raises (c : Settings) (hs : s.time.state ≠ .stopped) : Raises [.lockLost] s (rosterTick c s) :=
  .of_raiseIf _ List.mem_cons_self (by simp) (by simp) hs (rosterTick_runs c s hs) (replaceRoster_fault c _ s)

theorem mixTick_raises (c : Settings) (stamp : Stamp) (hs : s.time.state ≠ .stopped) :
    Raises [.feedLost, .limit, .saturation] s (mixTick c stamp s) := by
  unfold mixTick saturationJudged
  refine .trans (.trans (.trans (.of_fault ?_ ?_ hs ?_ ?_) (.raiseIf (f := .feedLost) _ ?_ ?_))
    (.raiseIf (f := .limit) _ ?_ ?_)) (.raiseIf (f := .saturation) _ ?_ ?_)
  all_goals simp [hs]

/-- The flags that the ordered three may raise. -/
theorem orderedTick_raises (c : Settings) (stamp : Stamp) (order : TickOrder) (hs : s.time.state ≠ .stopped) :
    Raises [.lockLost, .feedLost, .limit, .saturation] s (orderedTick c stamp order s) := by
  have window {s : State} (hs : s.time.state ≠ .stopped) :
      Raises [.lockLost, .feedLost, .limit, .saturation] s (windowTick c s) := (windowTick_raises c hs).mono (by simp)
  have roster {s : State} (hs : s.time.state ≠ .stopped) :
      Raises [.lockLost, .feedLost, .limit, .saturation] s (rosterTick c s) := (rosterTick_raises c hs).mono (by simp)
  have mix {s : State} (hs : s.time.state ≠ .stopped) :
      Raises [.lockLost, .feedLost, .limit, .saturation] s (mixTick c stamp s) :=
    (mixTick_raises c stamp hs).mono (by simp)
  cases order
  case windowExpiryMix => exact (window hs).trans ((roster (window hs).runs).trans (mix (roster (window hs).runs).runs))
  case windowMixExpiry => exact (window hs).trans ((mix (window hs).runs).trans (roster (mix (window hs).runs).runs))
  case expiryWindowMix => exact (roster hs).trans ((window (roster hs).runs).trans (mix (window (roster hs).runs).runs))
  case expiryMixWindow => exact (roster hs).trans ((mix (roster hs).runs).trans (window (mix (roster hs).runs).runs))
  case mixWindowExpiry => exact (mix hs).trans ((window (mix hs).runs).trans (roster (window (mix hs).runs).runs))
  case mixExpiryWindow => exact (mix hs).trans ((roster (mix hs).runs).trans (window (roster (mix hs).runs).runs))

/-- Before the ordered three a tick may raise SENSOR alone. -/
theorem beforeOrder_raises (c : Settings) (stamp : Stamp) (hs : s.time.state ≠ .stopped) :
    Raises [.sensor] s (beforeOrder c stamp s) :=
  .of_raiseIf (decide (s.meas.exchange ≠ .idle ∧ Config.failureRunLimit ≤ satAdd Config.count8 s.meas.failureRun 1))
    List.mem_cons_self (by simp) (by simp) hs (by simpa using hs) (by
      rw [beforeOrder_fault, measureTick_fault]
      by_cases h : s.meas.exchange ≠ .idle ∧ Config.failureRunLimit ≤ satAdd Config.count8 s.meas.failureRun 1
      · rw [if_pos h, decide_eq_true h, raiseIf_true]
      · rw [if_neg h, decide_eq_false h, raiseIf_false])

/-- The flags that a tick may raise. -/
theorem tickWork_raises (c : Settings) (stamp : Stamp) (order : TickOrder) (hs : s.time.state ≠ .stopped) :
    Raises [.sensor, .lockLost, .feedLost, .limit, .saturation] s (tickWork c stamp order s) := by
  have hbefore := beforeOrder_raises c stamp hs
  have hordered := orderedTick_raises c stamp order hbefore.runs
  refine .trans (hbefore.mono (by simp)) (.trans (hordered.mono (by simp)) (.of_fault ?_ ?_ hordered.runs ?_ ?_))
  · simp
  · simp
  · simpa using hordered.runs
  · simp

end Sys2Proof.Machine

/-! The tick: when it falls, and what it makes of each block (R31, R35). -/

namespace Sys2Proof.Machine

variable {c : Settings} {s : State}

/-! ## When a tick falls -/

theorem State.tickOwed_iff (c : Settings) (s : State) : s.tickOwed c = true ↔
    s.time.clock.toNat % 2 ^ c.period = 0 ∧ s.time.clock ≠ s.time.lastTick := by
  rw [State.tickOwed, Bool.and_eq_true, decide_eq_true_iff, decide_eq_true_iff]; rfl

/-- The microseconds to the next multiple. -/
theorem State.nextMultiple_eq (c : Settings) (s : State) : s.nextMultiple c = s.time.clock + BitVec.ofNat 32
    (if s.time.clock.toNat % 2 ^ c.period = 0 ∧ s.time.clock ≠ s.time.lastTick then 0
      else 2 ^ c.period - s.time.clock.toNat % 2 ^ c.period) := by
  unfold State.nextMultiple
  by_cases h : s.time.clock.toNat % 2 ^ c.period = 0 ∧ s.time.clock ≠ s.time.lastTick
  · rw [if_pos ((State.tickOwed_iff ..).mpr h), if_pos h]; exact (BitVec.add_zero _).symm
  · rw [if_neg (mt (State.tickOwed_iff ..).mp h), if_neg h, multipleAt, Settings.periodUs]
    have hlt : s.time.clock.toNat % 2 ^ c.period < 2 ^ c.period := Nat.mod_lt _ (Nat.two_pow_pos _)
    have hsum : BitVec.ofNat 32 (2 ^ c.period) = BitVec.ofNat 32 (2 ^ c.period - s.time.clock.toNat % 2 ^ c.period) +
        BitVec.ofNat 32 (s.time.clock.toNat % 2 ^ c.period) := by
      rw [← BitVec.ofNat_add, Nat.sub_add_cancel hlt.le]
    rw [hsum]; ring

/-- A clock moved on to the next multiple of 2^p stands at one, before and after a wrap. -/
theorem multiple_of_add {p : Nat} (hp : p ≤ 32) (clock : Stamp) {d : Nat} (hd : (clock.toNat + d) % 2 ^ p = 0) :
    (clock + BitVec.ofNat 32 d).toNat % 2 ^ p = 0 := by
  rw [BitVec.toNat_add, BitVec.toNat_ofNat, Nat.add_mod_mod, Nat.mod_mod_of_dvd _ (Nat.pow_dvd_pow 2 hp)]
  exact hd

theorem toNext_dvd (n : Nat) {m : Nat} (hm : 0 < m) : (n + (m - n % m)) % m = 0 := by
  have hlt := Nat.mod_lt n hm
  have hdiv := Nat.div_add_mod n m
  have : n + (m - n % m) = m * (n / m) + m := by omega
  rw [this, Nat.mul_add_mod, Nat.mod_self]

/-- The microseconds to the next multiple are few: the clock does not wrap past them. -/
theorem sub_toNat_of_add (clock : Stamp) {d : Nat} (hd : d < 2 ^ 32) : (clock + BitVec.ofNat 32 d - clock).toNat = d := by
  rw [add_sub_cancel_left, BitVec.toNat_ofNat, Nat.mod_eq_of_lt hd]

theorem mixTick_drive (c : Settings) (stamp : Stamp) (s : State) : (mixTick c stamp s).drive =
    { s.drive with pendingSetting := (mixTick c stamp s).drive.pendingSetting } := by
  simp [mixTick, saturationJudged]

/-- A tick gives the drive unit a pending setting and nothing else (R148). -/
theorem orderedTick_drive (c : Settings) (stamp : Stamp) (order : TickOrder) (s : State) :
    (orderedTick c stamp order s).drive =
      { s.drive with pendingSetting := (orderedTick c stamp order s).drive.pendingSetting } := by
  cases order
  case windowExpiryMix => simpa [orderedTick] using mixTick_drive c stamp (rosterTick c (windowTick c s))
  case windowMixExpiry => simpa [orderedTick] using mixTick_drive c stamp (windowTick c s)
  case expiryWindowMix => simpa [orderedTick] using mixTick_drive c stamp (windowTick c (rosterTick c s))
  case expiryMixWindow => simpa [orderedTick] using mixTick_drive c stamp (rosterTick c s)
  case mixWindowExpiry => simpa [orderedTick] using mixTick_drive c stamp s
  case mixExpiryWindow => simpa [orderedTick] using mixTick_drive c stamp s

/-- The blocks that a tick leaves as they stand. -/
theorem tickWork_blocks (c : Settings) (stamp : Stamp) (order : TickOrder) (s : State) :
    let t := tickWork c stamp order s
    t = { s with
      time := t.time, rx := t.rx, pub := t.pub, listen := t.listen, mix := t.mix, meas := t.meas, fault := t.fault
      test := t.test, drive := { s.drive with pendingSetting := t.drive.pendingSetting } } := by
  have hdrive := orderedTick_drive c stamp order (beforeOrder c stamp s)
  obtain ⟨hlow, hset, hline, hbus, hreq, hloader, hpending⟩ := tickWork_frame c stamp order s
  refine State.ext_blocks
    ⟨hlow, hset, hline, hbus, rfl, rfl, rfl, rfl, rfl, rfl, ?_, rfl, hreq, rfl, hloader, hpending⟩
  rw [tickWork_drive]
  simpa using hdrive

theorem exec_tick {c : Settings} {s : State} (hset : s.settings = some c) (hrun : s.time.state ≠ .stopped)
    (order : TickOrder) : exec (.tick order) s = .next (countedTick c order s) := by
  simp only [exec, execTick, hset, hrun, if_false]

/-- Settles O19: by what the work of a tick keeps of the clock. -/
theorem tickFallsOnTheNextMultiple : Obligations.TickFallsOnTheNextMultiple := by
  refine ⟨fun order s h => ?_, fun order c s hset hrun h7 h11 => ?_, fun order c stamp s hset hrun => ?_⟩
  · cases hset : s.settings with
    | none => simp only [exec, execTick, hset]
    | some c =>
      rcases h with h | h
      · rw [h] at hset; cases hset
      · simp only [exec, execTick, hset, h, if_true]
  · have hnext := s.nextMultiple_eq c
    dsimp only
    generalize hd : (if s.time.clock.toNat % 2 ^ c.period = 0 ∧ s.time.clock ≠ s.time.lastTick then 0
      else 2 ^ c.period - s.time.clock.toNat % 2 ^ c.period) = d at hnext ⊢
    have hpow : 2 ^ c.period ≤ 2 ^ 11 := Nat.pow_le_pow_right (by decide) h11
    have hsmall : d < 2 ^ 32 := by rw [← hd]; split <;> omega
    refine ⟨?_, multiple_of_add (by omega) _ ?_⟩
    · rw [exec_tick hset hrun, countedTick, hnext, sub_toNat_of_add _ hsmall]
    · rw [← hd]; split
      · rename_i h; exact h.1
      · exact toNext_dvd _ (Nat.two_pow_pos _)
  · have hraises := tickWork_raises c stamp order hrun
    exact ⟨by simp, by simp, by simp, by simp, hraises.runs, tickWork_blocks c stamp order s,
      fun g h1 h2 h3 h4 h5 => hraises.hasFlag_iff (by simp [h1, h2, h3, h4, h5]), hraises.fault_eq⟩

/-! ## The tick, block by block -/

/-- Settles O20: by the first work of the tick. -/
theorem tickTakesTheSnapshot : Obligations.TickTakesTheSnapshot := by
  intro order c stamp s hset hrun
  refine ⟨?_, ?_⟩
  · rw [tickWork_meas, measureTick_meas]
    rfl
  · have hordered := orderedTick_raises c stamp order (s := beforeOrder c stamp s) (by simpa using hrun)
    rw [tickWork_fault, hordered.hasFlag_iff (by simp), beforeOrder_fault, measureTick_fault]
    have hrun3 : (3 ≤ satAdd Config.count8 s.meas.failureRun 1) ↔ 3 ≤ s.meas.failureRun + 1 := by
      simp only [satAdd, Config.count8]; omega
    by_cases h : s.meas.exchange ≠ .idle ∧ 3 ≤ s.meas.failureRun + 1
    · rw [if_pos ⟨h.1, hrun3.mpr h.2⟩, raise_fault, hasFlag_raise]
      simp [h]
    · rw [if_neg fun h' => h ⟨h'.1, hrun3.mp h'.2⟩]
      simp only [h, or_false]

/-- Settles O23: slot by slot, by what the later work of the tick keeps of the listen table. -/
theorem tickAgesTheListenSlots : Obligations.TickAgesTheListenSlots := by
  intro order c stamp s hset hrun
  dsimp only
  intro k
  rw [tickWork_listen, get_mapAt, now_of_running hrun]
  rfl

/-! ## The lock window and the roster, in every order -/

/-- The roster after a tick's expiry. -/
def State.expiredRoster (c : Settings) (s : State) : Vector StationRecord 32 :=
  mapAt (fun _ r => r.expire c s.time.clock) s.rx.roster

theorem expiredRoster_get (c : Settings) (s : State) (j : Fin 32) : (s.expiredRoster c).get j =
    let r := s.rx.roster.get j
    if r.present = true ∧ c.rosterTimeout * 2 ^ c.period < (s.time.clock - r.lastHeard).toNat then
      { r with present := false }
    else r := by
  simp only [State.expiredRoster, get_mapAt, StationRecord.expire, StationRecord.overdue_iff]

theorem othersPresent_iff (own : Station) (roster : Vector StationRecord 32) : othersPresent own roster = true ↔
    ∃ j, j ≠ stationIndex own ∧ (roster.get j).present = true := by
  simp [othersPresent, List.any_eq_true]

/-- An expiry brings no station back. -/
theorem othersPresent_of_expired {own : Station} (h : othersPresent own (s.expiredRoster c) = true) :
    othersPresent own s.rx.roster = true := by
  rw [othersPresent_iff] at h ⊢
  obtain ⟨j, hj, hpresent⟩ := h
  refine ⟨j, hj, ?_⟩
  rw [expiredRoster_get] at hpresent
  dsimp only at hpresent
  split at hpresent
  · cases hpresent
  · exact hpresent

theorem rosterTick_eq (hs : s.time.state ≠ .stopped) : rosterTick c s = replaceRoster c (s.expiredRoster c) s := by
  rw [rosterTick, now_of_running hs, State.expiredRoster]

theorem expiredRoster_congr {s t : State} (hclock : t.time.clock = s.time.clock) (hrx : t.rx = s.rx) :
    t.expiredRoster c = s.expiredRoster c := by
  simp only [State.expiredRoster, hclock, hrx]

/-- The roster expires once in every order, against the clock at the tick. -/
theorem orderedTick_rx (stamp : Stamp) (order : TickOrder) (hs : s.time.state ≠ .stopped) :
    (orderedTick c stamp order s).rx = { s.rx with roster := s.expiredRoster c } := by
  have hw := windowTick_runs c s hs
  have hm : (mixTick c stamp s).time.state ≠ .stopped := by simpa using hs
  have hwm : (mixTick c stamp (windowTick c s)).time.state ≠ .stopped := by simpa using hw
  cases order
  case windowExpiryMix => simp [orderedTick, rosterTick_eq hw, expiredRoster_congr (s := s)]
  case windowMixExpiry => simp [orderedTick, rosterTick_eq hwm, expiredRoster_congr (s := s)]
  case expiryWindowMix => simp [orderedTick, rosterTick_eq hs]
  case expiryMixWindow => simp [orderedTick, rosterTick_eq hs]
  case mixWindowExpiry =>
    simp [orderedTick, rosterTick_eq (windowTick_runs c _ hm), expiredRoster_congr (s := s)]
  case mixExpiryWindow => simp [orderedTick, rosterTick_eq hm, expiredRoster_congr (s := s)]

/-- R29: the lock window at a tick, at the time unit. -/
def TimeUnit.window (others : Bool) (t : TimeUnit) : TimeUnit :=
  if t.state = .locked ∧ t.lockTimer < 16 then
    { t with lockTimer := t.lockTimer + 1
             state := if 16 ≤ t.lockTimer + 1 ∧ others = true then .adrift else t.state }
  else t

/-- R30: the loss of the last other station, at the time unit. -/
def TimeUnit.lose (lost : Bool) (t : TimeUnit) : TimeUnit := if lost then { t with state := .alone } else t

@[simp] theorem TimeUnit.window_clock (b : Bool) (t : TimeUnit) : (t.window b).clock = t.clock := by
  unfold TimeUnit.window; split <;> rfl

/-- The orders in which the lock window comes before the roster expiry. -/
def windowFirst : TickOrder → Bool
  | .windowExpiryMix | .windowMixExpiry | .mixWindowExpiry => true
  | .expiryWindowMix | .expiryMixWindow | .mixExpiryWindow => false

theorem windowTick_time_eq (c : Settings) (s : State) :
    (windowTick c s).time = s.time.window (othersPresent c.station s.rx.roster) := windowTick_time s c

theorem rosterTick_time_eq (hs : s.time.state ≠ .stopped) : (rosterTick c s).time = s.time.lose
    (othersPresent c.station s.rx.roster && !othersPresent c.station (s.expiredRoster c)) := by
  rw [rosterTick_eq hs, replaceRoster_time]; rfl

/-- The time unit after the ordered three; the mix leaves it. -/
theorem orderedTick_time (stamp : Stamp) (order : TickOrder) (hs : s.time.state ≠ .stopped) :
    let before := othersPresent c.station s.rx.roster
    let after := othersPresent c.station (s.expiredRoster c)
    (orderedTick c stamp order s).time =
      if windowFirst order then (s.time.window before).lose (before && !after)
      else (s.time.lose (before && !after)).window after := by
  have hw := windowTick_runs c s hs
  have hm : (mixTick c stamp s).time.state ≠ .stopped := by simpa using hs
  have hwm : (mixTick c stamp (windowTick c s)).time.state ≠ .stopped := by simpa using hw
  have hroster : (rosterTick c s).rx.roster = s.expiredRoster c := by simp [rosterTick_eq hs]
  cases order
  case windowExpiryMix =>
    simp [orderedTick, rosterTick_time_eq hw, expiredRoster_congr (s := s), windowTick_time_eq, windowFirst]
  case windowMixExpiry =>
    simp [orderedTick, rosterTick_time_eq hwm, expiredRoster_congr (s := s), windowTick_time_eq, windowFirst]
  case expiryWindowMix => simp [orderedTick, rosterTick_time_eq hs, windowTick_time_eq, windowFirst, hroster]
  case expiryMixWindow => simp [orderedTick, rosterTick_time_eq hs, windowTick_time_eq, windowFirst, hroster]
  case mixWindowExpiry =>
    simp [orderedTick, rosterTick_time_eq (windowTick_runs c _ hm), expiredRoster_congr (s := s), windowTick_time_eq,
      windowFirst]
  case mixExpiryWindow =>
    have hroster' : (rosterTick c (mixTick c stamp s)).rx.roster = s.expiredRoster c := by
      simp [rosterTick_eq hm, expiredRoster_congr (s := s)]
    simp [orderedTick, rosterTick_time_eq hm, expiredRoster_congr (s := s), windowTick_time_eq, windowFirst, hroster']

theorem TimeUnit.window_state (b : Bool) (t : TimeUnit) : (t.window b).state =
    if t.state = .locked ∧ t.lockTimer = 15 ∧ b = true then .adrift else t.state := by
  unfold TimeUnit.window
  by_cases h : t.state = .locked ∧ t.lockTimer = 15 ∧ b = true
  · obtain ⟨hl, ht, hb⟩ := id h
    rw [if_pos h, if_pos ⟨hl, by omega⟩]
    exact if_pos ⟨by omega, hb⟩
  · rw [if_neg h]
    split
    · rename_i hw
      exact if_neg fun hend => h ⟨hw.1, by omega, hend.2⟩
    · rfl

theorem TimeUnit.window_lockTimer (b : Bool) (t : TimeUnit) : (t.window b).lockTimer =
    if t.state = .locked ∧ t.lockTimer < 16 then t.lockTimer + 1 else t.lockTimer := by
  unfold TimeUnit.window; split <;> rfl

theorem TimeUnit.lose_state (lost : Bool) (t : TimeUnit) :
    (t.lose lost).state = if lost = true then .alone else t.state := by
  unfold TimeUnit.lose; split <;> rfl

@[simp] theorem TimeUnit.lose_lockTimer (lost : Bool) (t : TimeUnit) : (t.lose lost).lockTimer = t.lockTimer := by
  unfold TimeUnit.lose; split <;> rfl

/-- R29, R30: the time state is the same in every order: the loss of the last other station makes ALONE, and the
window's end with one present makes ADRIFT. -/
theorem ordered_state (first : Bool) {before after : Bool} (t : TimeUnit) (hafter : after = true → before = true) :
    (if first then (t.window before).lose (before && !after) else (t.lose (before && !after)).window after).state =
      if before = true ∧ ¬after = true then .alone
      else if t.state = .locked ∧ t.lockTimer = 15 ∧ after = true then .adrift else t.state := by
  by_cases hlost : before = true ∧ ¬after = true
  · have hlose : (before && !after) = true := by simpa using hlost
    rw [if_pos hlost, hlose]
    cases first
    · rw [if_neg Bool.false_ne_true, TimeUnit.window_state, TimeUnit.lose_state]; simp
    · rw [if_pos rfl, TimeUnit.lose_state]; simp
  · have hlose : (before && !after) = false := by simpa using hlost
    have hsame : before = after := Bool.eq_iff_iff.mpr ⟨fun hb => not_not.mp fun ha => hlost ⟨hb, ha⟩, hafter⟩
    rw [if_neg hlost, hlose]
    cases first
    · exact TimeUnit.window_state after t
    · rw [hsame]; exact TimeUnit.window_state after t

/-- R29: the lock window counts in LOCKED, where no last other station is lost. -/
theorem ordered_lockTimer (first : Bool) {before after : Bool} (t : TimeUnit) (hkeep : before = true → after = true) :
    (if first then (t.window before).lose (before && !after) else (t.lose (before && !after)).window after).lockTimer =
      if t.state = .locked ∧ t.lockTimer < 16 then t.lockTimer + 1 else t.lockTimer := by
  have hlose : (before && !after) = false := by
    cases hb : before
    · rfl
    · rw [hkeep hb]; rfl
  rw [hlose]
  cases first
  · exact TimeUnit.window_lockTimer after t
  · exact TimeUnit.window_lockTimer before t

/-- R29: outside LOCKED the window's timer stands. -/
theorem ordered_lockTimer_unlocked (first before after : Bool) {t : TimeUnit} (hstate : t.state ≠ .locked) :
    (if first then (t.window before).lose (before && !after) else (t.lose (before && !after)).window after).lockTimer =
      t.lockTimer := by
  cases first
  · rw [if_neg Bool.false_ne_true, TimeUnit.window_lockTimer, TimeUnit.lose_lockTimer, if_neg]
    rw [TimeUnit.lose_state]
    split <;> simp [hstate]
  · rw [if_pos rfl, TimeUnit.lose_lockTimer, TimeUnit.window_lockTimer, if_neg fun h => hstate h.1]

/-- LOCK_LOST rises where LOCKED is left, and only there; LOCKED is not entered. -/
structure LeavesLocked (s t : State) : Prop where
  stays : t.time.state = .locked → s.time.state = .locked
  flag : hasFlag t.fault.flags .lockLost = true ↔
    hasFlag s.fault.flags .lockLost = true ∨ (s.time.state = .locked ∧ t.time.state ≠ .locked)

theorem LeavesLocked.trans {s t u : State} (h : LeavesLocked s t) (h' : LeavesLocked t u) : LeavesLocked s u := by
  refine ⟨h.stays ∘ h'.stays, ?_⟩
  rw [h'.flag, h.flag]
  have hs := h.stays
  have ht := h'.stays
  by_cases h1 : s.time.state = .locked <;> by_cases h2 : t.time.state = .locked <;> simp_all

/-- An operation that leaves the time state and raises other flags alone. -/
theorem LeavesLocked.of_raises {s t : State} {allowed : List Flag} (h : Raises allowed s t)
    (hf : Flag.lockLost ∉ allowed) (hstate : t.time.state = s.time.state) : LeavesLocked s t := by
  refine ⟨fun ht => hstate ▸ ht, ?_⟩
  rw [h.hasFlag_iff hf, hstate]
  simp

/-- An operation that raises LOCK_LOST where it leaves LOCKED. -/
theorem LeavesLocked.of_raiseIf {s t : State} {b : Prop} [Decidable b] {st : TimeState} (hst : st ≠ .locked)
    (hstate : t.time.state = if b then st else s.time.state)
    (hfault : t.fault = (raiseIf (decide (s.time.state = .locked ∧ b)) .lockLost s).fault) : LeavesLocked s t := by
  refine ⟨?_, ?_⟩
  · rw [hstate]; split
    · exact fun h => absurd h hst
    · exact id
  · rw [hfault, hasFlag_raiseIf, hstate]
    by_cases hb : b <;> simp [hb, hst]

theorem windowTick_leavesLocked (c : Settings) (s : State) : LeavesLocked s (windowTick c s) := by
  refine .of_raiseIf (st := .adrift) (b := s.time.state = .locked ∧ s.time.lockTimer = 15 ∧
    othersPresent c.station s.rx.roster = true) (by simp) ?_ ?_
  · rw [windowTick_time_eq, TimeUnit.window_state]
  · rw [windowTick_fault]; simp

theorem rosterTick_leavesLocked (c : Settings) (hs : s.time.state ≠ .stopped) : LeavesLocked s (rosterTick c s) := by
  refine .of_raiseIf (st := .alone) (b := othersPresent c.station s.rx.roster = true ∧
    othersPresent c.station (s.expiredRoster c) = false) (by simp) ?_ ?_
  · rw [rosterTick_time_eq hs, TimeUnit.lose_state]; simp
  · rw [rosterTick_eq hs, replaceRoster_fault]

theorem mixTick_leavesLocked (c : Settings) (stamp : Stamp) (hs : s.time.state ≠ .stopped) :
    LeavesLocked s (mixTick c stamp s) := .of_raises (mixTick_raises c stamp hs) (by simp) (by simp)

theorem orderedTick_leavesLocked (c : Settings) (stamp : Stamp) (order : TickOrder) (hs : s.time.state ≠ .stopped) :
    LeavesLocked s (orderedTick c stamp order s) := by
  have hw := windowTick_runs c s hs
  have hr := rosterTick_runs c s hs
  have hm : (mixTick c stamp s).time.state ≠ .stopped := by simpa using hs
  cases order
  case windowExpiryMix =>
    exact (windowTick_leavesLocked c s).trans ((rosterTick_leavesLocked c hw).trans
      (mixTick_leavesLocked c stamp (rosterTick_runs c _ hw)))
  case windowMixExpiry =>
    exact (windowTick_leavesLocked c s).trans ((mixTick_leavesLocked c stamp hw).trans
      (rosterTick_leavesLocked c (by simpa using hw)))
  case expiryWindowMix =>
    exact (rosterTick_leavesLocked c hs).trans ((windowTick_leavesLocked c _).trans
      (mixTick_leavesLocked c stamp (windowTick_runs c _ hr)))
  case expiryMixWindow =>
    exact (rosterTick_leavesLocked c hs).trans ((mixTick_leavesLocked c stamp hr).trans
      (windowTick_leavesLocked c _))
  case mixWindowExpiry =>
    exact (mixTick_leavesLocked c stamp hs).trans ((windowTick_leavesLocked c _).trans
      (rosterTick_leavesLocked c (windowTick_runs c _ hm)))
  case mixExpiryWindow =>
    exact (mixTick_leavesLocked c stamp hs).trans ((rosterTick_leavesLocked c hm).trans
      (windowTick_leavesLocked c _))

/-- R41: the reception unit at a tick. -/
theorem Reception.tick_eq (r : Reception) : r.tick = { r with
    leakCount := if r.leakCount < 3 then r.leakCount + 1 else 0
    noiseBucket := if r.leakCount < 3 then r.noiseBucket else r.noiseBucket - 1 } := by
  unfold Reception.tick Reception.leakJudged
  by_cases h : r.leakCount < 3
  · have h4 : ¬Config.leakTicks ≤ r.leakCount + 1 := by simp only [Config.leakTicks]; omega
    simp only [h, h4, if_true, if_false]
  · have h4 : Config.leakTicks ≤ r.leakCount + 1 := by simp only [Config.leakTicks]; omega
    simp only [h, h4, if_true, if_false]

/-- R185, R189: the test unit at a tick. -/
theorem TestUnit.tick_eq (t : TestUnit) : t.tick = match t.state with
    | .sending => { t with due := true }
    | .checking =>
      if t.quiet < 31 then { t with quiet := t.quiet + 1 } else ({ t with quiet := 32 }.countErrors 1).finish
    | .idle | .done => t := by
  unfold TestUnit.tick TestUnit.quietJudged
  cases hst : t.state
  case checking =>
    dsimp only
    by_cases hq : t.quiet < 31
    · have hcount : satAdd Config.testQuietLimit t.quiet 1 = t.quiet + 1 := by simp only [satAdd, Config.testQuietLimit]; omega
      rw [if_pos hq, hcount, if_neg]
      simp only [Config.testQuietLimit]; omega
    · have hcount : satAdd Config.testQuietLimit t.quiet 1 = 32 := by simp only [satAdd, Config.testQuietLimit]; omega
      rw [if_neg hq, hcount, if_pos ⟨rfl, Nat.le_refl _⟩]
  all_goals rfl

theorem expiredRoster_tick (c : Settings) (stamp : Stamp) (s : State) :
    (beforeOrder c stamp s).expiredRoster c = s.expiredRoster c := by
  simp [State.expiredRoster]

/-- Settles O25: by the last work of the tick and what the work before it raises. -/
theorem tickExpiresAndCounts : Obligations.TickExpiresAndCounts := by
  intro order c stamp s hset hrun
  have hbefore := beforeOrder_raises c stamp hrun
  have hrx : (tickWork c stamp order s).rx = { s.rx.tick with roster := s.expiredRoster c } := by
    rw [tickWork_rx, orderedTick_rx stamp order hbefore.runs, expiredRoster_tick, beforeOrder_rx]
  have hroster : (tickWork c stamp order s).rx.roster = s.expiredRoster c := by rw [hrx]
  have htime := orderedTick_time (c := c) stamp order hbefore.runs
  rw [expiredRoster_tick, beforeOrder_rx, (Reception.tick_keeps _).2.2, ← tickWork_time, beforeOrder_time] at htime
  have hafter : othersPresent c.station (s.expiredRoster c) = true → othersPresent c.station s.rx.roster = true :=
    othersPresent_of_expired
  have hlost := (orderedTick_leavesLocked c stamp order hbefore.runs).flag
  rw [hbefore.hasFlag_iff (by simp), ← tickWork_fault, ← tickWork_time, beforeOrder_time, htime] at hlost
  dsimp only
  rw [hroster, hrx, htime, tickWork_test]
  refine ⟨expiredRoster_get c s, ⟨ordered_state _ _ hafter, fun hl hk => ?_⟩,
    fun hl => ordered_lockTimer_unlocked _ _ _ hl, ?_, ?_, ?_, ?_, ?_, ?_⟩
  · exact (ordered_lockTimer _ _ hk).trans (by simp [hl])
  · exact hlost
  · rw [Reception.tick_eq]
  · rw [Reception.tick_eq]
  · exact (Reception.tick_keeps s.rx).1
  · exact (Reception.tick_keeps s.rx).2.1
  · exact TestUnit.tick_eq s.test

end Sys2Proof.Machine

/-! The publisher at a tick (R55–R60, R71). -/

namespace Sys2Proof.Machine

/-! ## One entry at a tick, at the publisher -/

/-- R55–R59: the publisher after entry `i` at a tick stamped `stamp`, whose sources give `value`. -/
def Publisher.tickEntry (c : Settings) (stamp : Stamp) (value : PublishEntry → Half) (p : Publisher) (i : Fin 8) :
    Publisher :=
  match c.entryAt i with
  | none => p
  | some e =>
    let x := p.entries.get i
    if x.acc + 4 < e.step then p.setEntry i { x with acc := x.acc + 4 }
    else if e.burst = 1 then (p.setEntry i { x with acc := x.acc + 4 - e.step }).takeRequest c
      { tag := e.tag, values := [value e], newest := stamp, spacing := 0 }
    else p.judgeBurst c i e (x.acc + 4 - e.step) (gatherSample c e x.gather { stamp := stamp, value := value e }) stamp

/-- Every burst length of the publish table is at least 1 (R53). -/
abbrev Settings.BurstsPositive (c : Settings) : Prop := ∀ e ∈ c.publish, 1 ≤ e.burst

theorem entryTick_eq {c : Settings} (hb : c.BurstsPositive) (s : State) (i : Fin 8) : entryTick c s i =
    s.setPub (s.pub.tickEntry c s.time.lastTick (fun e => toHalf (sourceValue c s e.source)) i) := by
  unfold entryTick Publisher.tickEntry
  cases he : c.entryAt i with
  | none => rfl
  | some e =>
    dsimp only
    by_cases hdue : e.step ≤ (s.pub.entries.get i).acc + 4
    · rw [if_pos hdue, if_neg (Nat.not_lt.mpr hdue), sampleDue_eq he (hb e (Settings.entryAt_mem he).1)]
    · rw [if_neg hdue, if_pos (Nat.not_le.mp hdue)]

theorem sourceValue_setPub (c : Settings) (s : State) (p : Publisher) (x : PublishSource) :
    sourceValue c (s.setPub p) x = sourceValue c s x := by cases x <;> rfl

theorem foldl_entryTick {c : Settings} (hb : c.BurstsPositive) (l : List (Fin 8)) (s : State) :
    l.foldl (entryTick c) s = s.setPub (l.foldl
      (Publisher.tickEntry c s.time.lastTick fun e => toHalf (sourceValue c s e.source)) s.pub) := by
  induction l generalizing s with
  | nil => rfl
  | cons i l ih =>
    rw [List.foldl_cons, List.foldl_cons, entryTick_eq hb, ih]
    simp only [sourceValue_setPub]
    rfl

/-- The publisher after a tick's entries, in increasing order of their numbers. -/
theorem publishTick_pub {c : Settings} (hb : c.BurstsPositive) (s : State) : (publishTick c s).pub =
    [0, 1, 2, 3, 4, 5, 6, 7].foldl
      (Publisher.tickEntry c s.time.lastTick fun e => toHalf (sourceValue c s e.source)) s.pub := by
  rw [publishTick, foldl_entryTick hb]; rfl

/-! ## What a tick makes of each entry -/

variable {c : Settings} {stamp : Stamp} {value : PublishEntry → Half}

/-- R55–R59: entry `i` after a tick, from what it was. -/
def Settings.entryAfter (c : Settings) (stamp : Stamp) (value : PublishEntry → Half) (i : Fin 8) (x : PublishState) :
    PublishState :=
  match c.entryAt i with
  | none => x
  | some e =>
    if x.acc + 4 < e.step then { x with acc := x.acc + 4 }
    else if e.burst = 1 then { x with acc := x.acc + 4 - e.step }
    else
      let gather := gatherSample c e x.gather { stamp := stamp, value := value e }
      { acc := x.acc + 4 - e.step, gather := if e.burst ≤ gather.length then [] else gather }

theorem tickEntry_get (p : Publisher) (i j : Fin 8) : (p.tickEntry c stamp value i).entries.get j =
    if j = i then c.entryAfter stamp value i (p.entries.get i) else p.entries.get j := by
  unfold Publisher.tickEntry Settings.entryAfter
  cases c.entryAt i with
  | none => simp only []; split <;> simp_all
  | some e =>
    dsimp only [Publisher.judgeBurst]
    split
    · simp [Publisher.setEntry, get_putAt]
    · split
      · simp [Publisher.setEntry, get_putAt]
      · split <;> simp [Publisher.setEntry, get_putAt]

/-- The entries of a list without doubles are each taken once; the others stand. -/
theorem foldl_tickEntry_get {l : List (Fin 8)} (hl : l.Nodup) (p : Publisher) (j : Fin 8) :
    (l.foldl (Publisher.tickEntry c stamp value) p).entries.get j =
      if j ∈ l then c.entryAfter stamp value j (p.entries.get j) else p.entries.get j := by
  induction l generalizing p with
  | nil => simp
  | cons i l ih =>
    obtain ⟨hi, hl⟩ := List.nodup_cons.mp hl
    rw [List.foldl_cons, ih hl, tickEntry_get]
    by_cases hj : j = i
    · subst hj; simp [hi]
    · simp [hj]

/-- An entry that is not due adds to its accumulator alone. -/
theorem tickEntry_of_not_due {p : Publisher} {i : Fin 8}
    (h : ∀ e, c.entryAt i = some e → (p.entries.get i).acc + 4 < e.step) :
    let q := p.tickEntry c stamp value i
    q.outbox = p.outbox ∧ q.escalated = p.escalated ∧ q.coalesces = p.coalesces := by
  unfold Publisher.tickEntry
  cases he : c.entryAt i with
  | none => exact ⟨rfl, rfl, rfl⟩
  | some e =>
    dsimp only
    rw [if_pos (h e he)]
    exact ⟨rfl, rfl, rfl⟩

/-- Where no entry is due, a tick leaves the outbox. -/
theorem foldl_tickEntry_outbox {l : List (Fin 8)} (hl : l.Nodup) {p : Publisher}
    (h : ∀ i ∈ l, ∀ e, c.entryAt i = some e → (p.entries.get i).acc + 4 < e.step) :
    let q := l.foldl (Publisher.tickEntry c stamp value) p
    q.outbox = p.outbox ∧ q.escalated = p.escalated ∧ q.coalesces = p.coalesces := by
  induction l generalizing p with
  | nil => exact ⟨rfl, rfl, rfl⟩
  | cons i l ih =>
    obtain ⟨hi, hl⟩ := List.nodup_cons.mp hl
    obtain ⟨hout, hesc, hcoal⟩ := tickEntry_of_not_due (stamp := stamp) (value := value) (h i List.mem_cons_self)
    obtain ⟨hout', hesc', hcoal'⟩ := ih hl (p := p.tickEntry c stamp value i) fun j hj e he => by
      have hji : j ≠ i := fun hji => hi (hji ▸ hj)
      rw [tickEntry_get, if_neg hji]
      exact h j (List.mem_cons_of_mem _ hj) e he
    exact ⟨hout'.trans hout, hesc'.trans hesc, hcoal'.trans hcoal⟩

theorem takeRequest_beat (c : Settings) (r : OutboxRequest) (p : Publisher) :
    (p.takeRequest c r).beatTimer = p.beatTimer ∧ (p.takeRequest c r).beatDue = p.beatDue := by
  unfold Publisher.takeRequest; split <;> exact ⟨rfl, rfl⟩

theorem tickEntry_beat (p : Publisher) (i : Fin 8) : (p.tickEntry c stamp value i).beatTimer = p.beatTimer ∧
    (p.tickEntry c stamp value i).beatDue = p.beatDue := by
  unfold Publisher.tickEntry
  cases c.entryAt i with
  | none => exact ⟨rfl, rfl⟩
  | some e =>
    dsimp only [Publisher.judgeBurst]
    split
    · exact ⟨rfl, rfl⟩
    · split
      · exact takeRequest_beat ..
      · split
        · exact takeRequest_beat ..
        · exact ⟨rfl, rfl⟩

theorem foldl_tickEntry_beat (l : List (Fin 8)) (p : Publisher) :
    (l.foldl (Publisher.tickEntry c stamp value) p).beatTimer = p.beatTimer ∧
      (l.foldl (Publisher.tickEntry c stamp value) p).beatDue = p.beatDue :=
  ⟨foldl_keeps Publisher.beatTimer _ (fun p i => (tickEntry_beat p i).1) l p,
    foldl_keeps Publisher.beatDue _ (fun p i => (tickEntry_beat p i).2) l p⟩

/-- R71: the beat timer at a tick. -/
theorem Publisher.beatTick_eq (c : Settings) (p : Publisher) :
    let beat := if p.beatTimer < c.beatInterval then p.beatTimer + 1 else p.beatTimer
    p.beatTick c = { p with beatTimer := beat, beatDue := p.beatDue || decide (c.beatInterval ≤ beat) } := by
  unfold Publisher.beatTick Publisher.beatJudged
  dsimp only
  generalize (if p.beatTimer < c.beatInterval then p.beatTimer + 1 else p.beatTimer) = beat
  by_cases h : c.beatInterval ≤ beat <;> simp [h]

/-- What the sources give at a tick: the snapshot of the tick and the mix after it (R56). -/
theorem sourceValue_tick (stamp : Stamp) (order : TickOrder) (s : State) (x : PublishSource) :
    sourceValue c (orderedTick c stamp order (beforeOrder c stamp s)) x = match x with
      | .position => c.positionOf s.meas.count
      | .rate => s.meas.lastRate.toInt
      | .effort => (tickWork c stamp order s).mix.effort
      | .integral => (tickWork c stamp order s).mix.integral.tdiv 1024 := by
  have hcount : (measureTick s).meas.snapCount = s.meas.count := by rw [measureTick_meas]; split <;> rfl
  have hrate : (measureTick s).meas.snapRate = s.meas.lastRate := by rw [measureTick_meas]; split <;> rfl
  cases x
  · simp [sourceValue, hcount]
  · simp [sourceValue, hrate]
  · simp [sourceValue]
  · simp [sourceValue, MixUnit.integralValue]

/-- The publisher after a tick. -/
theorem tickWork_pub (hb : c.BurstsPositive) (stamp : Stamp) (order : TickOrder) (s : State) :
    let value (e : PublishEntry) := toHalf (sourceValue c (orderedTick c stamp order (beforeOrder c stamp s)) e.source)
    let beat := if s.pub.beatTimer < c.beatInterval then s.pub.beatTimer + 1 else s.pub.beatTimer
    (tickWork c stamp order s).pub = { [0, 1, 2, 3, 4, 5, 6, 7].foldl (Publisher.tickEntry c stamp value) s.pub with
      beatTimer := beat, beatDue := s.pub.beatDue || decide (c.beatInterval ≤ beat) } := by
  have hstamp : (orderedTick c stamp order (beforeOrder c stamp s)).time.lastTick = stamp := by simp
  have hpub : (orderedTick c stamp order (beforeOrder c stamp s)).pub = s.pub := by simp
  rw [tickWork_eq, State.pub_setPub, publishTick_pub hb, Publisher.beatTick_eq, hstamp, hpub]
  dsimp only
  rw [(foldl_tickEntry_beat _ _).1, (foldl_tickEntry_beat _ _).2]

/-- Settles O24: entry by entry. -/
theorem tickCountsTowardPublication : Obligations.TickCountsTowardPublication := by
  intro order c stamp s hset hrun hb
  have hpub := tickWork_pub hb stamp order s
  have hnodup : ([0, 1, 2, 3, 4, 5, 6, 7] : List (Fin 8)).Nodup := by decide
  have hall (i : Fin 8) : i ∈ ([0, 1, 2, 3, 4, 5, 6, 7] : List (Fin 8)) := by revert i; decide
  have hentry (i : Fin 8) := foldl_tickEntry_get (c := c) (stamp := stamp)
    (value := fun e => toHalf (sourceValue c (orderedTick c stamp order (beforeOrder c stamp s)) e.source))
    hnodup s.pub i
  simp only [hall, if_true] at hentry
  dsimp only
  refine ⟨?_, fun i => ?_, fun i h => ?_, fun h => ?_⟩
  · rw [hpub]
    dsimp only
    refine congrArg (fun q : Publisher => { q with
      beatTimer := if s.pub.beatTimer < c.beatInterval then s.pub.beatTimer + 1 else s.pub.beatTimer
      beatDue := s.pub.beatDue || decide (c.beatInterval ≤
        if s.pub.beatTimer < c.beatInterval then s.pub.beatTimer + 1 else s.pub.beatTimer) })
      (foldl_congr_fun (fun p i => ?_) _ _)
    rw [Publisher.tickEntry]
    simp only [sourceValue_tick]
    cases c.entryAt i with
    | none => rfl
    | some e => rfl
  · rw [hpub]
    dsimp only
    rw [hentry, Settings.entryAfter]
    cases c.entryAt i with
    | none => rfl
    | some e =>
      dsimp only
      by_cases hdue : e.step ≤ (s.pub.entries.get i).acc + 4
      · rw [if_neg (Nat.not_lt.mpr hdue), if_pos hdue]; split <;> rfl
      · rw [if_pos (Nat.not_le.mp hdue), if_neg hdue]
  · rw [hpub]
    dsimp only
    rw [hentry, Settings.entryAfter]
    cases he : c.entryAt i with
    | none => rfl
    | some e =>
      dsimp only
      rw [if_pos (h e he)]
  · rw [hpub]
    exact foldl_tickEntry_outbox hnodup fun i _ => h i

end Sys2Proof.Machine

/-! The selection from a ring (R97, R98). -/

namespace Sys2Proof.Machine

/-- Of two stamps later than a third, one is later than the other. -/
theorem later_or_later {a b x : Stamp} (hx : later x a = true) (hb : later b a = true) (hne : x ≠ b) :
    later b x = true ∨ later x b = true := by
  rw [later_iff] at hx hb ⊢
  rw [later_iff]
  have hbx : b - x = (b - a) - (x - a) := by ring
  have hxb : x - b = (x - a) - (b - a) := by ring
  have hdiff : (x - a).toNat ≠ (b - a).toNat := fun h => hne (sub_left_inj.mp (BitVec.eq_of_toNat_eq h))
  rw [hbx, hxb]
  generalize x - a = p at hx hdiff ⊢
  generalize b - a = q at hb hdiff ⊢
  rw [BitVec.toNat_sub, BitVec.toNat_sub]
  omega

theorem later_asymm {a b : Stamp} (h : later a b = true) : later b a = false := by
  rw [Bool.eq_false_iff, ne_eq, later_iff]
  rw [later_iff] at h
  have hba : b - a = -(a - b) := by ring
  rw [hba]
  generalize a - b = d at h ⊢
  rw [BitVec.toNat_neg]
  omega

/-! ## The two samples that an instant lies between -/

/-- The pair found stands in the ring, the instant strictly between. -/
theorem bridgePair_eq_some {x : Stamp} {ring : List Sample} {s0 s1 : Sample}
    (h : bridgePair x ring = some (s0, s1)) : ∃ before after, ring = before ++ s0 :: s1 :: after ∧
      later x s0.stamp = true ∧ later s1.stamp x = true := by
  induction ring with
  | nil => cases h
  | cons a ring ih =>
    cases ring with
    | nil => cases h
    | cons b ring =>
      rw [bridgePair] at h
      split at h
      · rename_i hbetween
        obtain ⟨rfl, rfl⟩ : a = s0 ∧ b = s1 := by simpa using h
        exact ⟨[], ring, rfl, by simpa using hbetween⟩
      · obtain ⟨before, after, hring, hlater⟩ := ih h
        exact ⟨a :: before, after, by rw [hring]; rfl, hlater⟩

/-- In a ring whose stamps rise past the instant, from a sample before it, two samples lie around it. -/
theorem bridgePair_isSome {x : Stamp} {s0 : Sample} {ring : List Sample} (hrise : (s0 :: ring).IsChain
      fun a b => later b.stamp a.stamp = true) (hne : ∀ y ∈ s0 :: ring, y.stamp ≠ x)
    (hfirst : later x s0.stamp = true) {newest : Sample} (hlast : (s0 :: ring).getLast? = some newest)
    (hbefore : later x newest.stamp = false) : ∃ p, bridgePair x (s0 :: ring) = some p := by
  induction ring generalizing s0 with
  | nil =>
    obtain rfl : s0 = newest := by simpa using hlast
    rw [hfirst] at hbefore; cases hbefore
  | cons s1 ring ih =>
    obtain ⟨hstep, hrest⟩ := List.isChain_cons_cons.mp hrise
    rw [bridgePair]
    rcases later_or_later hfirst hstep (hne s1 (by simp)).symm with hnext | hnext
    · exact ⟨(s0, s1), by rw [hfirst, hnext]; rfl⟩
    · have hno : later s1.stamp x = false := later_asymm hnext
      rw [hfirst, hno]
      exact ih hrest (fun y hy => hne y (List.mem_cons_of_mem _ hy)) hnext (by simpa using hlast)

/-! ## The selection -/

theorem select_of_not_live {slot : Slot} (h : slot.state ≠ .live) (x : Stamp) : slot.select x = .stale := by
  unfold Slot.select; cases hst : slot.state <;> simp_all

theorem select_of_live {slot : Slot} (h : slot.state = .live) (x : Stamp) : slot.select x = selectRing slot.ring x := by
  unfold Slot.select; rw [h]

/-- The one sample stamped with the instant. -/
theorem selectRing_exact {ring : List Sample} {x : Stamp} {y : Sample} (hy : y ∈ ring) (hx : y.stamp = x)
    (hone : ∀ z ∈ ring, z.stamp = x → z = y) : selectRing ring x = .exact y.value.toInt := by
  unfold selectRing
  cases hfind : ring.find? (fun y => decide (y.stamp = x)) with
  | none => exact absurd hx (by simpa using List.find?_eq_none.mp hfind y hy)
  | some z =>
    obtain rfl : z = y := hone z (List.mem_of_find?_eq_some hfind) (by simpa using List.find?_some hfind)
    rfl

section
variable {ring : List Sample} {x : Stamp} (hne : ∀ y ∈ ring, y.stamp ≠ x) {oldest newest : Sample}
  (hhead : ring.head? = some oldest) (hlast : ring.getLast? = some newest)

include hne in
theorem find?_stamp_eq_none : ring.find? (fun y => decide (y.stamp = x)) = none :=
  List.find?_eq_none.mpr fun y hy => by simpa using hne y hy

include hne hhead hlast

/-- Past the newest sample it is held. -/
theorem selectRing_past (hnew : later x newest.stamp = true) : selectRing ring x = .held newest.value.toInt := by
  simp [selectRing, find?_stamp_eq_none hne, hhead, hlast, hnew]

/-- Before the oldest sample it is held. -/
theorem selectRing_before (hnew : later x newest.stamp = false) (hold : later oldest.stamp x = true) :
    selectRing ring x = .held oldest.value.toInt := by
  simp [selectRing, find?_stamp_eq_none hne, hhead, hlast, hnew, hold]

/-- Between two samples of the ring. -/
theorem selectRing_between (hnew : later x newest.stamp = false) (hold : later oldest.stamp x = false)
    {s0 s1 : Sample} (hpair : bridgePair x ring = some (s0, s1)) :
    selectRing ring x = .bridged (bridge x s0 s1) := by
  simp [selectRing, find?_stamp_eq_none hne, hhead, hlast, hnew, hold, hpair]

end

theorem selectRing_bridged {ring : List Sample} {x : Stamp} {v : Int} (h : selectRing ring x = .bridged v) :
    ∃ s0 s1, bridgePair x ring = some (s0, s1) ∧ v = bridge x s0 s1 := by
  unfold selectRing at h
  split at h
  · cases h
  · split at h
    · split at h
      · cases h
      · split at h
        · cases h
        · split at h
          · rename_i s0 s1 hpair
            cases h
            exact ⟨s0, s1, hpair, rfl⟩
          · cases h
    · cases h

/-- Settles O22: by the search of the ring from its newest sample. -/
theorem selectionReadsTheRing : Obligations.SelectionReadsTheRing := by
  refine fun slot x => ⟨fun h => select_of_not_live h x, fun hlive => ?_⟩
  rw [select_of_live hlive]
  refine ⟨fun y hy hx hone => selectRing_exact hy hx hone, fun hne oldest newest hhead hlast => ?_, fun v h => ?_⟩
  · refine ⟨selectRing_past hne hhead hlast, selectRing_before hne hhead hlast, fun hrise hnew hold => ?_⟩
    obtain ⟨rest, hring⟩ : ∃ rest, slot.ring = oldest :: rest := List.head?_eq_some_iff.mp hhead
    obtain ⟨⟨s0, s1⟩, hpair⟩ := bridgePair_isSome (hring ▸ hrise) (hring ▸ hne) hold (hring ▸ hlast) hnew
    exact ⟨bridge x s0 s1, selectRing_between hne hhead hlast hnew (later_asymm hold) (hring ▸ hpair)⟩
  · obtain ⟨s0, s1, hpair, hv⟩ := selectRing_bridged h
    obtain ⟨before, after, hring, hfirst, hnext⟩ := bridgePair_eq_some hpair
    exact ⟨before, s0, s1, after, hring, hfirst, hnext, hv⟩

end Sys2Proof.Machine

/-! The mix at a tick (R96–R117): the state that it reads in each order, the terms, the masks and the sums. -/

namespace Sys2Proof.Machine

variable {c : Settings} {stamp : Stamp} {s u : State}

/-! ## The state that the mix reads -/

/-- The state that the mix of the tick takes, in the order given. -/
def State.atMix (c : Settings) (order : TickOrder) (s : State) : State :=
  match order with
  | .windowExpiryMix => rosterTick c (windowTick c s)
  | .windowMixExpiry => windowTick c s
  | .expiryWindowMix => windowTick c (rosterTick c s)
  | .expiryMixWindow => rosterTick c s
  | .mixWindowExpiry | .mixExpiryWindow => s

@[simp] theorem atMix_frame (order : TickOrder) (s : State) : (s.atMix c order).settings = s.settings ∧
    (s.atMix c order).listen = s.listen ∧ (s.atMix c order).mix = s.mix ∧ (s.atMix c order).meas = s.meas ∧
    (s.atMix c order).drive = s.drive := by
  cases order <;> simp [State.atMix]

theorem orderedTick_mix (stamp : Stamp) (order : TickOrder) (s : State) : (orderedTick c stamp order s).mix =
    (mixTick c stamp (s.atMix c order)).mix := by
  cases order <;> simp [orderedTick, State.atMix]

theorem orderedTick_pendingSetting (stamp : Stamp) (order : TickOrder) (s : State) :
    (orderedTick c stamp order s).drive = (mixTick c stamp (s.atMix c order)).drive := by
  cases order <;> simp [orderedTick, State.atMix]

theorem atMix_raises (order : TickOrder) (hs : s.time.state ≠ .stopped) : Raises [.lockLost] s (s.atMix c order) := by
  cases order
  case windowExpiryMix => exact (windowTick_raises c hs).trans (rosterTick_raises c (windowTick_runs c s hs))
  case windowMixExpiry => exact windowTick_raises c hs
  case expiryWindowMix => exact (rosterTick_raises c hs).trans (windowTick_raises c (rosterTick_runs c s hs))
  case expiryMixWindow => exact rosterTick_raises c hs
  case mixWindowExpiry | mixExpiryWindow => exact .of_fault rfl rfl hs hs rfl

/-- After the mix the lock window and the roster raise LOCK_LOST alone. -/
theorem afterMix_raises (stamp : Stamp) (order : TickOrder) (hs : s.time.state ≠ .stopped) :
    Raises [.lockLost] (mixTick c stamp (s.atMix c order)) (orderedTick c stamp order s) := by
  have hm : (mixTick c stamp (s.atMix c order)).time.state ≠ .stopped := by simpa using (atMix_raises order hs).runs
  cases order
  case windowExpiryMix | expiryWindowMix => exact .of_fault rfl rfl hm hm rfl
  case windowMixExpiry => exact rosterTick_raises c hm
  case expiryMixWindow => exact windowTick_raises c hm
  case mixWindowExpiry => exact (windowTick_raises c hm).trans (rosterTick_raises c (windowTick_runs c _ hm))
  case mixExpiryWindow => exact (rosterTick_raises c hm).trans (windowTick_raises c (rosterTick_runs c _ hm))

/-! ## Terms, masks and sums -/

theorem threeBits (a b d : Bool) : let mask := BitVec.ofBool a ++ BitVec.ofBool b ++ BitVec.ofBool d
    mask.getLsbD 0 = d ∧ mask.getLsbD 1 = b ∧ mask.getLsbD 2 = a := by
  revert a b d; decide

/-- R105: the mark of a group in the mask of a tick. -/
theorem groupMask_getLsbD {value : MixRow → Option Int} {locked : Prop}
    (hvalue : ∀ row, termValue c stamp u row = value row) (hlocked : u.time.state = .locked ↔ locked) {g : Fin 4}
    (hg : g ≠ 0) : (groupMask c stamp u).getLsbD (g.val - 1) = true ↔
      ¬locked ∨ ∃ row ∈ c.rows, row.group = g ∧ value row = none := by
  have hmasked : groupMasked c stamp u g = true ↔ ¬locked ∨ ∃ row ∈ c.rows, row.group = g ∧ value row = none := by
    simp [groupMasked, hlocked, hvalue]
  obtain ⟨h1, h2, h3⟩ := threeBits (groupMasked c stamp u 3) (groupMasked c stamp u 2) (groupMasked c stamp u 1)
  rw [← hmasked, groupMask]
  fin_cases g
  · exact absurd rfl hg
  · exact iff_of_eq (congrArg (· = true) h1)
  · exact iff_of_eq (congrArg (· = true) h2)
  · exact iff_of_eq (congrArg (· = true) h3)

theorem maskedIn_iff (mask : BitVec 3) (g : Fin 4) :
    maskedIn mask g = true ↔ g ≠ 0 ∧ mask.getLsbD (g.val - 1) = true := by
  simp [maskedIn]

/-- R107: the rows that count. -/
theorem rowCounts_iff (mask : BitVec 3) (drive : DriveState) (row : MixRow) : rowCounts mask drive row = true ↔
    row.group = 0 ∨ (¬maskedIn mask row.group = true ∧ drive ≠ .hold) := by
  simp [rowCounts]

/-- R107: the contribution of a row, from a function that gives it for the rows in use. -/
theorem contribution_eq {value : MixRow → Option Int} (hvalue : ∀ row, termValue c stamp u row = value row)
    {mask : BitVec 3} {counts : MixRow → Prop} (hcounts : ∀ row, rowCounts mask u.drive.state row = true ↔ counts row)
    {term : MixRow → Int} {row : MixRow} (hyes : counts row → term row = (value row).getD 0 * row.weight.toInt)
    (hno : ¬counts row → term row = 0) : contribution c stamp u mask row = term row := by
  unfold contribution
  split
  · rename_i h; rw [hyes ((hcounts row).mp h), hvalue]
  · rename_i h; rw [hno fun h' => h ((hcounts row).mpr h')]

theorem limitActs_iff (c : Settings) (position effort : Int) : limitActs c position effort = true ↔
    (c.highLimit ≤ position ∧ 0 < effort) ∨ (position ≤ c.lowLimit ∧ effort < 0) := by
  simp [limitActs]

theorem clampEngaged_iff (c : Settings) (raw : Int) :
    clampEngaged c raw = true ↔ raw < -c.effortLimit ∨ (c.effortLimit : Int) < raw := by
  simp [clampEngaged]

/-- R111: the saturation run after a tick. -/
theorem nextSatRun_eq (c : Settings) (run : Nat) {engaged : Prop} [Decidable engaged] {b : Bool}
    (hb : b = true ↔ engaged) : nextSatRun c run b = if c.saturationCount = 0 ∨ ¬engaged then 0 else min 255 (run + 1) := by
  have hfalse : b = false ↔ ¬engaged := by rw [← hb, Bool.not_eq_true]
  simp only [nextSatRun, hfalse, satAdd]

/-- R114, R115: the integral after a tick. -/
theorem nextIntegral_eq (c : Settings) (i si : Int) (drive : DriveState) {acted : Prop} [Decidable acted] {b : Bool}
    (hb : b = true ↔ acted) :
    let bound : Int := c.integralLimit * 1024
    nextIntegral c i si drive b = match drive with
      | .active => if acted then i else max (-bound) (min bound (i + si / 2 ^ c.integralShift))
      | .hold | .coast => i
      | .off | .disarmed => 0 := by
  cases drive
  case active =>
    dsimp only [nextIntegral]
    by_cases h : acted
    · rw [if_pos h, if_pos (hb.mpr h)]
    · rw [if_neg h, if_neg (mt hb.mp h)]; rfl
  all_goals rfl

/-! ## The flags of the mix -/

/-- R106: FEED_LOST. -/
theorem feedLost_iff (c : Settings) (before after : BitVec 3) (drive : DriveState) :
    feedLost c before after drive = true ↔ drive = .active ∧ ∃ row ∈ c.rows,
      maskedIn after row.group = true ∧ before.getLsbD (row.group.val - 1) = false := by
  simp only [feedLost, Bool.and_eq_true, decide_eq_true_eq, List.any_eq_true, Bool.not_eq_true']
  refine and_congr_right fun _ => exists_congr fun row => and_congr_right fun _ => and_congr_right fun hafter => ?_
  have hg := ((maskedIn_iff ..).mp hafter).1
  rw [← Bool.not_eq_true, ← Bool.not_eq_true, maskedIn_iff]
  simp [hg]

/-- The three flags of the mix, each by its own condition. -/
theorem mixTick_flags (c : Settings) (stamp : Stamp) (s : State) :
    let mask := groupMask c stamp s
    let v := s.localValues c
    let raw := rawEffort (effortSum c stamp s mask)
    let fs := (mixTick c stamp s).fault.flags
    (hasFlag fs .feedLost = true ↔
      hasFlag s.fault.flags .feedLost = true ∨ feedLost c s.mix.mask mask s.drive.state = true) ∧
    (hasFlag fs .limit = true ↔
      hasFlag s.fault.flags .limit = true ∨ limitActs c v.position (clampEffort c raw) = true) ∧
    (hasFlag fs .saturation = true ↔ hasFlag s.fault.flags .saturation = true ∨
      (0 < c.saturationCount ∧ c.saturationCount ≤ nextSatRun c s.mix.satRun (clampEngaged c raw))) := by
  refine ⟨?_, ?_, ?_⟩ <;> simp [mixTick, saturationJudged, hasFlag_raiseIf, MixUnit.afterTick]

end Sys2Proof.Machine

/-! The mix at a tick, as a whole (R96–R117, R148). -/

namespace Sys2Proof.Machine

variable {c : Settings} {stamp : Stamp} {s u : State}

/-- The value of a local source in the local values of a tick; BIAS is 1024 (R100, R102). -/
def LocalValues.read (h : LocalValues) : MixSource → Int
  | .position => h.position
  | .rate => h.rate
  | .integral => h.integral
  | .priorEffort => h.priorEffort
  | .bias | .slot _ => 1024

/-- R102–R104: a term from the slots' states, the local values and the history. -/
theorem termValue_eq (c : Settings) (stamp : Stamp) (u : State) (row : MixRow) : termValue c stamp u row =
    match row.source, row.use with
    | .slot k, .level => ((u.listen.get k).select (targetInstant c stamp)).value
    | .slot k, .slope =>
      match ((u.listen.get k).select (targetInstant c stamp)).value,
        ((u.listen.get k).select (targetInstant c stamp - BitVec.ofNat 32 (2 ^ c.period))).value with
      | some a, some b => some (sat16 (a - b))
      | _, _ => none
    | x, .level => some ((u.localValues c).read x)
    | x, .slope => some (match u.mix.history with
      | none => 0
      | some h => sat16 ((u.localValues c).read x - h.read x)) := by
  unfold termValue
  rcases row with ⟨source, use, weight, route, group⟩
  cases source <;> cases use <;> cases u.mix.history <;> rfl

/-- The local values of a tick: the snapshot that it takes, and the mix before it (R100). -/
theorem localValues_tick (c : Settings) (stamp : Stamp) (order : TickOrder) (s : State) :
    ((beforeOrder c stamp s).atMix c order).localValues c =
      { position := c.positionOf s.meas.count, rate := s.meas.lastRate.toInt
        integral := s.mix.integral.tdiv 1024, priorEffort := s.mix.effort } := by
  have hcount : (measureTick s).meas.snapCount = s.meas.count := by rw [measureTick_meas]; split <;> rfl
  have hrate : (measureTick s).meas.snapRate = s.meas.lastRate := by rw [measureTick_meas]; split <;> rfl
  simp [State.localValues, hcount, hrate, MixUnit.integralValue]

/-- The time state that the mix reads is LOCKED (R95). -/
theorem atMix_locked (order : TickOrder) (hs : s.time.state ≠ .stopped) :
    let before := othersPresent c.station s.rx.roster = true
    let after := othersPresent c.station (s.expiredRoster c) = true
    (s.atMix c order).time.state = .locked ↔ match order with
      | .mixWindowExpiry | .mixExpiryWindow => s.time.state = .locked
      | .windowMixExpiry => s.time.state = .locked ∧ ¬(s.time.lockTimer = 15 ∧ before)
      | .expiryMixWindow => s.time.state = .locked ∧ (before → after)
      | .windowExpiryMix | .expiryWindowMix => (orderedTick c stamp order s).time.state = .locked := by
  cases order
  case windowExpiryMix | expiryWindowMix => simp [State.atMix, orderedTick]
  case windowMixExpiry =>
    dsimp only [State.atMix]
    rw [windowTick_time_eq, TimeUnit.window_state]
    split
    · rename_i h; simp [h]
    · rename_i h; exact ⟨fun hl => ⟨hl, fun hend => h ⟨hl, hend⟩⟩, And.left⟩
  case expiryMixWindow =>
    dsimp only [State.atMix]
    rw [rosterTick_time_eq hs, TimeUnit.lose_state]
    by_cases hb : othersPresent c.station s.rx.roster = true <;>
      by_cases ha : othersPresent c.station (s.expiredRoster c) = true <;> simp [hb, ha]
  case mixWindowExpiry | mixExpiryWindow => exact Iff.rfl

theorem tickWork_roster (stamp : Stamp) (order : TickOrder) (hs : s.time.state ≠ .stopped) :
    (tickWork c stamp order s).rx.roster = s.expiredRoster c := by
  rw [tickWork_rx, orderedTick_rx stamp order (beforeOrder_raises c stamp hs).runs, expiredRoster_tick]

/-- The mix unit after the mix of a tick, from its sums. -/
theorem mixTick_mix (c : Settings) (stamp : Stamp) (u : State) : (mixTick c stamp u).mix =
    u.mix.afterTick c (u.localValues c) (groupMask c stamp u) (effortSum c stamp u (groupMask c stamp u))
      (integralSum c stamp u (groupMask c stamp u)) u.drive.state := by
  simp [mixTick, saturationJudged]

/-- R148: the effort becomes the pending setting of the drive state read. -/
theorem mixTick_pendingSetting (c : Settings) (stamp : Stamp) (u : State) : (mixTick c stamp u).drive.pendingSetting =
    some { effort := (mixTick c stamp u).mix.effort, state := u.drive.state } := by
  simp [mixTick, saturationJudged]

/-- The mix unit after a tick, with its conditions written out (R110–R117). -/
theorem afterTick_eq (c : Settings) (m : MixUnit) (v : LocalValues) (mask : BitVec 3) (se si : Int) (drive : DriveState) :
    let raw := (se + 512) / 1024
    let clamped := max (-(c.effortLimit : Int)) (min (c.effortLimit : Int) raw)
    let acted := (c.highLimit ≤ v.position ∧ 0 < clamped) ∨ (v.position ≤ c.lowLimit ∧ clamped < 0)
    let engaged := raw < -c.effortLimit ∨ c.effortLimit < raw
    let bound : Int := c.integralLimit * 1024
    m.afterTick c v mask se si drive =
      { integral := match drive with
          | .active => if acted then m.integral else max (-bound) (min bound (m.integral + si / 2 ^ c.integralShift))
          | .hold | .coast => m.integral
          | .off | .disarmed => 0
        effort := if acted then 0 else clamped, prior := m.effort, history := some v, mask := mask
        satRun := if c.saturationCount = 0 ∨ ¬engaged then 0 else min 255 (m.satRun + 1)
        atHigh := decide (c.highLimit ≤ v.position), atLow := decide (v.position ≤ c.lowLimit) } := by
  have hint := nextIntegral_eq c m.integral si drive (limitActs_iff c v.position (clampEffort c (rawEffort se)))
  have hsat := nextSatRun_eq c m.satRun (clampEngaged_iff c (rawEffort se))
  have heff : (if limitActs c v.position (clampEffort c (rawEffort se)) then 0 else clampEffort c (rawEffort se)) = _ :=
    if_congr (limitActs_iff ..) rfl rfl
  rw [MixUnit.afterTick, heff, hint, hsat]
  rfl

/-- Settles O21: the terms row by row, then the effort that they make. -/
theorem tickMixesTheTerms : Obligations.TickMixesTheTerms := by
  intro order c stamp s hset hrun t before after locked rows v read sat target value masked counts se si term hterm hse hsi
    raw clamped acted engaged effort run bound
  have hb := (beforeOrder_raises c stamp hrun).runs
  have hraises := atMix_raises (c := c) order hb
  have hafter := afterMix_raises (c := c) stamp order hb
  have htmix : t.mix = (mixTick c stamp ((beforeOrder c stamp s).atMix c order)).mix := by
    rw [tickWork_mix, orderedTick_mix]
  have htdrive : t.drive = (mixTick c stamp ((beforeOrder c stamp s).atMix c order)).drive := by
    rw [tickWork_drive, orderedTick_pendingSetting]
  have hlock := atMix_locked (c := c) (stamp := stamp) order hb
  rw [expiredRoster_tick, beforeOrder_rx, (Reception.tick_keeps s.rx).2.2, beforeOrder_time,
    ← tickWork_roster stamp order hrun, ← tickWork_time] at hlock
  have hv := localValues_tick c stamp order s
  obtain ⟨-, hlisten, hmix, -, hdrive⟩ := atMix_frame (c := c) order (beforeOrder c stamp s)
  rw [beforeOrder_listen, ← tickWork_listen s c stamp order] at hlisten
  simp only [beforeOrder_frame] at hmix hdrive
  have hflag (g : Flag) (hg : g ∉ [Flag.sensor, Flag.lockLost]) : hasFlag
      ((beforeOrder c stamp s).atMix c order).fault.flags g = hasFlag s.fault.flags g := by
    rw [hraises.hasFlag_iff fun h => hg (List.mem_cons_of_mem _ h),
      (beforeOrder_raises c stamp hrun).hasFlag_iff fun h => hg (by simp_all)]
  have htflag (g : Flag) (hg : g ∉ [Flag.lockLost]) : hasFlag t.fault.flags g =
      hasFlag (mixTick c stamp ((beforeOrder c stamp s).atMix c order)).fault.flags g := by
    rw [tickWork_fault, hafter.hasFlag_iff hg]
  clear hraises hafter
  generalize (beforeOrder c stamp s).atMix c order = u at *
  have hvalue (row : MixRow) : termValue c stamp u row = value row := by
    rw [termValue_eq, hlisten, hmix, hv]
    rcases row with ⟨source, use, weight, route, group⟩
    cases source <;> cases use <;> rfl
  have hlocked : u.time.state = .locked ↔ locked := hlock
  have hmask {g : Fin 4} (hg : g ≠ 0) := groupMask_getLsbD hvalue hlocked hg
  have hmaskedIn (g : Fin 4) : maskedIn (groupMask c stamp u) g = true ↔ masked g := by
    rw [maskedIn_iff]
    exact and_congr_right hmask
  have hcounts (row : MixRow) : rowCounts (groupMask c stamp u) u.drive.state row = true ↔ counts row := by
    rw [rowCounts_iff, hmaskedIn, hdrive]
  have hterms (row : MixRow) (hrow : row ∈ rows) : contribution c stamp u (groupMask c stamp u) row = term row :=
    contribution_eq hvalue hcounts (hterm row hrow).1 (hterm row hrow).2
  have hse' : effortSum c stamp u (groupMask c stamp u) = se := by
    rw [hse]
    exact congrArg List.sum (List.map_congr_left fun row hrow => hterms row (List.mem_of_mem_filter hrow))
  have hsi' : integralSum c stamp u (groupMask c stamp u) = si := by
    rw [hsi]
    exact congrArg List.sum (List.map_congr_left fun row hrow => hterms row (List.mem_of_mem_filter hrow))
  have hmixed := htmix
  rw [mixTick_mix, hse', hsi', hv, hmix, hdrive, afterTick_eq] at hmixed
  obtain ⟨hfeed, hlimit, hsat⟩ := mixTick_flags c stamp u
  have hmaskeq : t.mix.mask = groupMask c stamp u := by rw [hmixed]
  have heffort : t.mix.effort = effort := by rw [hmixed]
  refine ⟨fun g hg => ?_, ?_, ?_, ?_, ?_, ?_⟩
  · rw [hmaskeq, hmask hg]
    exact (and_iff_right hg).symm
  · rw [hmaskeq]; exact hmixed
  · rw [htdrive, mixTick_pendingSetting, ← htmix, heffort, hdrive]
  · rw [htflag _ (by simp), hfeed, hflag _ (by simp), feedLost_iff, hdrive, hmix]
    refine or_congr_right (and_congr_right fun _ => exists_congr fun row => and_congr_right fun _ => ?_)
    rw [hmaskedIn]
  · rw [htflag _ (by simp), hlimit, hflag _ (by simp), limitActs_iff, hse', hv]
    exact Iff.rfl
  · rw [htflag _ (by simp), hsat, hflag _ (by simp), hse', hmix, nextSatRun_eq c _ (clampEngaged_iff ..)]
    exact Iff.rfl

end Sys2Proof.Machine

/-! Every command answers a next state, and leaves the queue (log entry 4). -/

namespace Sys2Proof.Machine

/-- Settles O2: each arm of the dispatch answers `.next`, and no operation reaches the queue. -/
theorem everyCommandCompletes : Obligations.EveryCommandCompletes := by
  intro i s
  cases i
  all_goals
    refine ⟨_, rfl, ?_⟩
    (repeat' split) <;> simp [observeInputs]

end Sys2Proof.Machine

/-! Matching frames: the adoption, the hand-off of the stamp, and what is handed on (R24–R28, R32, R44–R47). -/

namespace Sys2Proof.Machine

variable {c : Settings} {f : HeardFrame} {s u : State}

/-! ## What is handed on -/

/-- Handing records on leaves the bus controller, the line, the time unit and the settings. -/
@[simp] theorem foldl_takeHanded_frame (c : Settings) (sender : Station) (l : List Handed) (s : State) :
    (l.foldl (takeHanded c sender) s).bus = s.bus ∧ (l.foldl (takeHanded c sender) s).line = s.line ∧
    (l.foldl (takeHanded c sender) s).time = s.time ∧ (l.foldl (takeHanded c sender) s).settings = s.settings := by
  refine ⟨?_, ?_, ?_, ?_⟩
  · exact foldl_keeps State.bus _ (fun s x => by simp) l s
  · exact foldl_keeps State.line _ (fun s x => by simp) l s
  · exact foldl_keeps State.time _ (fun s x => by simp) l s
  · exact foldl_keeps State.settings _ (fun s x => by simp) l s

/-- A matching frame without a tick: the record and then the payload, whole, wherever the tick would have been. -/
theorem matchingFrame_of_no_tick (place : JumpTick) (order : TickOrder) (h : handOffTick c f s = none) :
    matchingFrame c place order f s =
      f.handed.foldl (takeHanded c f.station) (rosterUpdate f (endBackoff (handOff c f s))) := by
  unfold matchingFrame
  simp only [h]
  cases place
  · rfl
  · dsimp only
    rw [← List.foldl_append, List.take_append_drop]

/-- A matching frame with a tick, at its place. -/
theorem matchingFrame_of_tick (place : JumpTick) (order : TickOrder) {stamp : Stamp}
    (h : handOffTick c f s = some stamp) :
    matchingFrame c place order f s = match place with
      | .afterStamp => f.handed.foldl (takeHanded c f.station)
          (rosterUpdate f (tickWork c stamp order (endBackoff (handOff c f s))))
      | .afterRecords n => (f.handed.drop n).foldl (takeHanded c f.station) (tickWork c stamp order
          ((f.handed.take n).foldl (takeHanded c f.station) (rosterUpdate f (endBackoff (handOff c f s))))) := by
  unfold matchingFrame
  simp only [h]
  cases place <;> rfl

/-- A frame end with a matching frame. -/
theorem exec_frameEnd_matching {heard : Heard} (hset : s.settings = some c) (htx : s.bus.tx ≠ .sending)
    (hphase : s.loader.phase = .listen ∨ s.loader.phase = .run) (hline : s.line.abandoned = false)
    (hread : readFrame heard = some f) (hst : f.station ≠ c.station) (hper : f.period.toNat = c.period) (dt : Nat)
    (place : JumpTick) (order : TickOrder) : exec (.frameEnd dt heard place order) s =
      .next (lineHeardQuiet (matchingFrame c place order f (s.advance dt))) := by
  rw [exec_frameEnd_heard hset htx hphase hline, judgeHeard, hread]
  dsimp only
  rw [if_neg hst, if_neg (not_not.mpr hper)]

/-- R47: the sender's record after a matching frame. -/
theorem rosterUpdate_eq (f : HeardFrame) (s : State) : rosterUpdate f s =
    let r := s.rx.recordOf f.station
    let updated : StationRecord :=
      { r with
        present := true, lastSequence := f.sequence, periodMismatch := false
        lastHeard := s.now - BitVec.ofNat 32 (10 + f.length)
        missed := if r.present then min 255 (r.missed + (f.sequence - r.lastSequence - 1).toNat) else r.missed }
    { s with rx := { s.rx with roster := putAt s.rx.roster (stationIndex f.station) updated } } := rfl

/-! ## The adoption -/

theorem lineHeardQuiet_of {t : State} {w : Wheel}
    (h : (if t.bus.tx = .ready ∨ t.bus.tx = .backoff then .gap else .stopped) = w) : lineHeardQuiet t =
      { t with line := { busy := false, abandoned := false }, bus := { t.bus with wheel := w } } := by
  rw [lineHeardQuiet_eq, h]

/-- The preamble of the frame adopted from ended 10 µs and its payload before the frame did (R24, R47). -/
theorem adoptedClock_sub (stamp : Stamp) (length : Nat) :
    adoptedClock stamp length - BitVec.ofNat 32 (10 + length) = stamp + 2 := by
  have hsum : BitVec.ofNat 32 (12 + length) = 2 + BitVec.ofNat 32 (10 + length) := by
    rw [show (2 : Stamp) = BitVec.ofNat 32 2 from rfl, ← BitVec.ofNat_add, ← Nat.add_assoc]
  rw [adoptedClock, hsum]
  ring

/-- The adoption and the record that it updates, block by block. -/
theorem adopted_eq (c : Settings) (f : HeardFrame) (u : State) :
    let twin := hasFlag u.fault.flags .twin = true
    let r := u.rx.recordOf f.station
    let updated : StationRecord :=
      { r with
        present := true, lastSequence := f.sequence, periodMismatch := false, lastHeard := f.stamp + 2
        missed := if r.present then min 255 (r.missed + (f.sequence - r.lastSequence - 1).toNat) else r.missed }
    rosterUpdate f (endBackoff (adopt c f u)) =
      { u with
        time := { u.time with clock := f.stamp + BitVec.ofNat 32 (12 + f.length), state := .locked, lockTimer := 0
                              lastTick := f.stamp + BitVec.ofNat 32 (12 + f.length) }
        loader := { u.loader with phase := .run }
        bus := { u.bus with tx := if twin then .muted else .ready }
        pub := { u.pub with entries := mapAt (fun i x => match c.entryAt i with
          | none => x
          | some e => { acc := e.startPhase % e.step, gather := [] }) u.pub.entries }
        rx := { u.rx with roster := putAt u.rx.roster (stationIndex f.station) updated } } := by
  refine State.ext_blocks ⟨rfl, rfl, rfl, ?_, rfl, ?_, ?_, rfl, rfl, rfl, rfl, rfl, rfl, rfl, rfl, rfl⟩
  · rw [(rosterUpdate_frame _ _).2.2.2.1, endBackoff_bus, adopt_bus]
    cases hasFlag u.fault.flags .twin <;> rfl
  · have hnow : (endBackoff (adopt c f u)).now = adoptedClock f.stamp f.length := by
      rw [now_of_running (by simp)]; simp
    rw [rosterUpdate_eq, hnow, adoptedClock_sub]
    simp
  · simp only [rosterUpdate_frame, endBackoff_frame, adopt_pub]
    exact Publisher.enterRun_eq c u.pub

/-- Settles O32: the adopted clock runs at the frame's stamp, and the payload's work keeps it. -/
theorem adoptionStartsTheClock : Obligations.AdoptionStartsTheClock := by
  intro dt heard place order c f s hset hphase hstop hsilent hline hread hst hper u twin r updated adopted t
  have hustop : (s.advance dt).time.state = .stopped := by simpa using hstop
  have huphase : (s.advance dt).loader.phase = .listen := by rwa [advance_phase]
  have hno : handOffTick c f (s.advance dt) = none := if_pos hustop
  have hoff : handOff c f (s.advance dt) = adopt c f (s.advance dt) := by
    rw [handOff, if_pos hustop, if_pos huphase]
  have htime : u.time = s.time := if_pos hstop
  have hadopted : rosterUpdate f (endBackoff (adopt c f u)) = adopted := by
    have h := adopted_eq c f u
    rw [htime] at h
    exact h
  have hbus : t.bus = adopted.bus := (foldl_takeHanded_frame c f.station f.handed adopted).1
  rw [exec_frameEnd_matching hset (by simp [hsilent]) (Or.inl hphase) hline hread hst hper,
    matchingFrame_of_no_tick place order hno, hoff, hadopted, lineHeardQuiet_of (w := if twin then .stopped else .gap)]
  rw [hbus]
  by_cases htwin : twin
  · simp [adopted, htwin]
  · simp [adopted, htwin]

end Sys2Proof.Machine

/-! A matching frame in RUN: the hand-off of its stamp to a running clock, and the payload handed on (R26–R28, R32, R33,
R44–R47, R51). -/

namespace Sys2Proof.Machine

variable {c : Settings} {f : HeardFrame} {s u : State}

/-! ## The stamp hand-off to a running clock -/

/-- The clock after a hand-off with this diff (R26). -/
def movedClock (diff : Int) (a : Stamp) : Stamp := if 0 < diff then a + BitVec.ofInt 32 diff else a

/-- The multiples of 2^p that a hand-off passes or reaches, from the instant before one whose tick is owed (R32, R33). -/
def multiplesReached (c : Settings) (diff : Int) (t : TimeUnit) : Nat :=
  let multiple (x : Stamp) : Stamp := x - BitVec.ofNat 32 (x.toNat % 2 ^ c.period)
  let from' := if t.clock.toNat % 2 ^ c.period = 0 ∧ t.clock ≠ t.lastTick then t.clock - 1 else t.clock
  (multiple (movedClock diff t.clock) - multiple from').toNat / 2 ^ c.period

theorem jumpCount_eq {diff : Int} (hdiff : 0 < diff) (c : Settings) (s : State) :
    s.jumpCount c (s.time.clock + BitVec.ofInt 32 diff) = multiplesReached c diff s.time := by
  have howed : (if s.tickOwed c = true then s.time.clock - 1 else s.time.clock) = _ :=
    if_congr (State.tickOwed_iff c s) rfl rfl
  rw [State.jumpCount, howed, multiplesReached, movedClock, if_pos hdiff]
  rfl

/-- The time unit after a hand-off with this diff (R26–R28, R32). -/
def movedTime (c : Settings) (diff : Int) (t : TimeUnit) : TimeUnit :=
  let agrees := -(c.tolerance : Int) ≤ diff ∧ diff ≤ c.tolerance
  let leaves := (c.tolerance : Int) < diff ∧ t.state = .locked
  { t with
    clock := movedClock diff t.clock
    skipped := if 0 < diff then min 65535 (t.skipped + (multiplesReached c diff t - 1)) else t.skipped
    laggards := if diff < -(c.tolerance : Int) then min 65535 (t.laggards + 1) else t.laggards
    state := if agrees then .locked else if leaves then .adrift else t.state
    lockTimer := if agrees then 0 else t.lockTimer }

theorem jump_eq (c : Settings) (diff : Int) (s : State) : jump c diff s = { s with time := { s.time with
    clock := movedClock diff s.time.clock
    skipped := if 0 < diff then min 65535 (s.time.skipped + (multiplesReached c diff s.time - 1)) else s.time.skipped
    laggards := if diff < -(c.tolerance : Int) then min 65535 (s.time.laggards + 1) else s.time.laggards } } := by
  unfold jump
  dsimp only
  by_cases hpos : 0 < diff
  · have hlag : ¬diff < -(c.tolerance : Int) := by omega
    rw [if_pos hpos, jumpCount_eq hpos, if_pos hpos, if_neg hlag, movedClock, if_pos hpos]
    rfl
  · rw [if_neg hpos, if_neg hpos, movedClock, if_neg hpos]
    split <;> rfl

/-- The hand-off to a running clock, and the end of a BACKOFF. -/
theorem handOff_eq (hrun : u.time.state ≠ .stopped) :
    let diff := (f.stamp + 2 - u.rx.arrival).toInt
    let moved : State := { u with
      time := movedTime c diff u.time
      bus := { u.bus with tx := if u.bus.tx = .backoff then .ready else u.bus.tx } }
    endBackoff (handOff c f u) =
      if (c.tolerance : Int) < diff ∧ u.time.state = .locked then raise .lockLost moved else moved := by
  intro diff moved
  have hdiff : stampDiff f.stamp u.rx.arrival = diff := rfl
  rw [handOff, if_neg hrun, hdiff, jump_eq, judgeDiff]
  by_cases hagrees : -(c.tolerance : Int) ≤ diff ∧ diff ≤ c.tolerance
  · have hleaves : ¬((c.tolerance : Int) < diff ∧ u.time.state = .locked) := fun h => by omega
    rw [if_pos hagrees, if_neg hleaves]
    simp only [moved, movedTime, hagrees, and_self, if_true]
    rfl
  · rw [if_neg hagrees]
    by_cases hleaves : (c.tolerance : Int) < diff ∧ u.time.state = .locked
    · rw [if_pos hleaves, if_pos hleaves, leaveTo_eq, if_pos hleaves.2]
      simp only [moved, movedTime, if_neg hagrees, if_pos hleaves]
      rfl
    · rw [if_neg hleaves, if_neg hleaves]
      simp only [moved, movedTime, if_neg hagrees, if_neg hleaves]
      rfl

/-- The tick that the hand-off produces (R32). -/
theorem handOffTick_eq (hrun : u.time.state ≠ .stopped) :
    let diff := (f.stamp + 2 - u.rx.arrival).toInt
    handOffTick c f u = if 0 < diff ∧ 1 ≤ multiplesReached c diff u.time then
      some (multipleAt c (movedClock diff u.time.clock)) else none := by
  intro diff
  rw [handOffTick, if_neg hrun, jumpTickStamp]
  by_cases hpos : 0 < diff
  · rw [show stampDiff f.stamp u.rx.arrival = diff from rfl, jumpCount_eq hpos, movedClock, if_pos hpos]
  · rw [if_neg fun h => hpos h.1, if_neg fun h => hpos h.1]

/-- Where a matching frame stands: the clock runs, at an instant. -/
structure RunsAt (b : Stamp) (s : State) : Prop where
  runs : s.time.state ≠ .stopped
  clock : s.time.clock = b

theorem RunsAt.now {b : Stamp} (h : RunsAt b s) : s.now = b := (now_of_running h.runs).trans h.clock

theorem RunsAt.tick {b : Stamp} (h : RunsAt b s) (stamp : Stamp) (order : TickOrder) :
    RunsAt b (tickWork c stamp order s) :=
  ⟨tickWork_runs s c stamp order h.runs, (tickWork_raises c stamp order h.runs).clock.trans h.clock⟩

/-- The hand-off leaves the clock running at the instant that it is moved to. -/
theorem handOff_runsAt (hrun : u.time.state ≠ .stopped) :
    RunsAt (movedClock (f.stamp + 2 - u.rx.arrival).toInt u.time.clock) (endBackoff (handOff c f u)) := by
  refine ⟨by simpa using handOff_runs c f u hrun, ?_⟩
  rw [handOff_eq hrun]
  split <;> simp [movedTime]

/-! ## Requests handed on -/

theorem stationByte_eq_iff (origin : Byte) (station : Station) :
    (origin == stationByte station) = true ↔ origin.toNat = station.toNat := by
  have hlt := station.isLt
  rw [beq_iff_eq, ← BitVec.toNat_inj, stationByte, BitVec.toNat_setWidth, Nat.mod_eq_of_lt (by omega)]

/-- R175: a REQUEST record applies to the stations of its mask, from its own origin, in RUN. -/
theorem applies_iff (c : Settings) (station : Station) (r : RequestRecord) (s : State) : s.applies c station r = true ↔
    s.loader.phase = .run ∧ r.mask.getLsbD c.station.toNat = true ∧ r.origin.toNat = station.toNat := by
  rw [State.applies, Bool.and_eq_true, Bool.and_eq_true, decide_eq_true_iff, stationByte_eq_iff, and_assoc]
  rfl

/-- R176: what is handed on to an owner is its command. -/
theorem exec_request (hset : s.settings = some c) (hphase : s.loader.phase = .run) (station : Station)
    (r : RequestRecord) : exec (match r.kind with
      | .arm => .arm
      | .disarm => .disarm
      | .clear => .clear
      | .query => .query
      | .testStart => .testStart (r.sender.truncate 5) r.count station
      | .testStop => .testStop (r.sender.truncate 5)) s = .next (requestTaken c r s) := by
  unfold requestTaken
  cases r.kind
  · exact congrArg Host.Outcome.next (if_pos hphase)
  · exact congrArg Host.Outcome.next (if_pos hphase)
  · exact congrArg Host.Outcome.next (if_pos hphase)
  · exact congrArg Host.Outcome.next (if_pos hphase)
  · simp only [exec, execTestStart, hset]
    exact congrArg Host.Outcome.next (if_pos hphase)
  · simp only [exec, execTestStop, hset]
    exact congrArg Host.Outcome.next (if_pos hphase)

/-- Settles O34: the payload's work by the two orders of tick and hand-off. -/
theorem matchingFrameHandsItsPayloadOn : Obligations.MatchingFrameHandsItsPayloadOn := by
  refine ⟨?_, ?_, ?_⟩
  · intro dt heard place order c f s hset hphase hrun htx hline hread hst hper u diff a b from' multiple k agrees leaves
      moved stamped ticked updated handed t
    have hurun : u.time.state ≠ .stopped := by simpa [u] using hrun
    have hutime : u.time = { s.time with clock := a } := if_neg hrun
    have hstamped : endBackoff (handOff c f u) = stamped := by
      have h := handOff_eq (c := c) (f := f) hurun
      rw [hutime] at h
      exact h
    have hruns : RunsAt b stamped := by
      have h := handOff_runsAt (c := c) (f := f) hurun
      rw [hstamped, hutime] at h
      exact h
    have hupdated {x : State} (hx : RunsAt b x) : rosterUpdate f x = updated x := by
      rw [rosterUpdate_eq, hx.now]
    have htick : handOffTick c f u = if 0 < diff ∧ 1 ≤ k then some (multiple b) else none := by
      have h := handOffTick_eq (c := c) (f := f) hurun
      rw [hutime] at h
      exact h
    have hframe : matchingFrame c place order f u = t := by
      by_cases hjump : 0 < diff ∧ 1 ≤ k
      · rw [if_pos hjump] at htick
        have hticked (x : State) : ticked x = tickWork c (multiple b) order x := if_pos hjump
        rw [matchingFrame_of_tick place order htick, hstamped]
        cases place
        · simp only [t, hticked, ← hupdated (hruns.tick (multiple b) order)]; rfl
        · simp only [t, hticked, ← hupdated hruns]; rfl
      · rw [if_neg hjump] at htick
        have hticked (x : State) : ticked x = x := if_neg hjump
        rw [matchingFrame_of_no_tick place order htick, hstamped]
        cases place
        · simp only [t, hticked, ← hupdated hruns]; rfl
        · simp only [t, hticked, ← hupdated hruns]
          exact (congrArg (List.foldl _ _) (List.take_append_drop _ _).symm).trans List.foldl_append
    have hbus : t.bus = moved.bus := by
      have hstampedBus : stamped.bus = moved.bus := by simp only [stamped]; split <;> rfl
      have htickedBus (x : State) : (ticked x).bus = x.bus := by simp only [ticked]; split <;> simp
      rw [← hstampedBus]
      cases place
      · simp only [t, handed, (foldl_takeHanded_frame _ _ _ _).1]
        exact htickedBus stamped
      · simp only [t, handed, (foldl_takeHanded_frame _ _ _ _).1, htickedBus]
        rfl
    rw [exec_frameEnd_matching hset htx (Or.inr hphase) hline hread hst hper, hframe]
    exact congrArg Host.Outcome.next (lineHeardQuiet_of (by rw [hbus]; exact if_congr endBackoff_runs rfl rfl))
  · intro sender c s hset hphase hst
    refine ⟨fun r huse => ?_, fun r => ?_, fun b huse => ?_⟩
    · simp only [exec, execTagRecord, hset]
      exact congrArg Host.Outcome.next (if_pos ⟨hphase, hst, huse⟩)
    · simp only [exec, execNoteRecord, hset]
      exact congrArg Host.Outcome.next (if_pos ⟨hphase, hst⟩)
    · simp only [exec, execTestBlock, hset]
      exact congrArg Host.Outcome.next (if_pos ⟨hphase, hst, huse⟩)
  · intro station c r s hset
    refine ⟨rfl, rfl, fun hphase hmask horigin => ?_, fun h => ?_⟩
    · rw [actOn, if_pos ((applies_iff ..).mpr ⟨hphase, hmask, horigin⟩)]
      exact exec_request hset hphase station r
    · refine if_neg fun happlies => ?_
      obtain ⟨hphase, hmask, horigin⟩ := (applies_iff ..).mp happlies
      rcases h with h | h | h
      · exact h hphase
      · rw [hmask] at h; cases h
      · exact h horigin

end Sys2Proof.Machine

/-! What a matching frame in RUN makes of the time unit and the bus controller (R18, R26–R28, R32). -/

namespace Sys2Proof.Machine

variable {c : Settings} {f : HeardFrame} {s u : State}

/-- A matching frame leaves the bus controller as the stamp hand-off does. -/
theorem matchingFrame_bus (place : JumpTick) (order : TickOrder) :
    (matchingFrame c place order f u).bus = (endBackoff (handOff c f u)).bus := by
  cases h : handOffTick c f u with
  | none => rw [matchingFrame_of_no_tick place order h]; simp
  | some stamp => rw [matchingFrame_of_tick place order h]; cases place <;> simp

/-- After the hand-off the payload leaves the time unit. -/
theorem matchingFrame_time_of_no_tick (place : JumpTick) (order : TickOrder) (h : handOffTick c f u = none) :
    (matchingFrame c place order f u).time = (endBackoff (handOff c f u)).time := by
  rw [matchingFrame_of_no_tick place order h]; simp

/-- The tick of a jump leaves the clock and the counts of the hand-off, and is the latest tick. -/
theorem matchingFrame_time_of_tick (place : JumpTick) (order : TickOrder) {stamp : Stamp}
    (h : handOffTick c f u = some stamp) :
    let t := (matchingFrame c place order f u).time
    let moved := (endBackoff (handOff c f u)).time
    t.clock = moved.clock ∧ t.skipped = moved.skipped ∧ t.laggards = moved.laggards ∧ t.lastTick = stamp := by
  rw [matchingFrame_of_tick place order h]
  cases place <;> simp

/-- The time unit after the hand-off to a running clock. -/
theorem handOff_time (hrun : u.time.state ≠ .stopped) : (endBackoff (handOff c f u)).time =
    movedTime c (f.stamp + 2 - u.rx.arrival).toInt u.time := by
  rw [handOff_eq hrun]; split <;> simp

theorem handOff_bus (hrun : u.time.state ≠ .stopped) : (endBackoff (handOff c f u)).bus =
    { u.bus with tx := if u.bus.tx = .backoff then .ready else u.bus.tx } := by
  rw [handOff_eq hrun]; split <;> simp

/-- Settles O33: by whether the clock moves forward past a multiple, so that the hand-off owes a tick. -/
theorem matchingFrameMovesTheClock : Obligations.MatchingFrameMovesTheClock := by
  intro dt heard place order c f s hset hphase hrun htx hline hread hst hper diff a b owed from' multiple k
  have hurun : (s.advance dt).time.state ≠ .stopped := by simpa using hrun
  have hutime : (s.advance dt).time = { s.time with clock := a } := if_neg hrun
  have htime := handOff_time (c := c) (f := f) hurun
  rw [hutime] at htime
  have htick := handOffTick_eq (c := c) (f := f) hurun
  rw [hutime] at htick
  have hbus := (matchingFrame_bus place order).trans (handOff_bus (c := c) (f := f) hurun)
  refine ⟨_, exec_frameEnd_matching hset htx (Or.inr hphase) hline hread hst hper dt place order, ?_⟩
  have htx' : (lineHeardQuiet (matchingFrame c place order f (s.advance dt))).bus.tx =
      if s.bus.tx = .backoff then .ready else s.bus.tx := congrArg BusController.tx hbus
  by_cases hjump : 0 < diff ∧ 1 ≤ k
  · have hsome : handOffTick c f (s.advance dt) = some (multiple b) := htick.trans (if_pos hjump)
    obtain ⟨hclock, hskip, hlag, hlast⟩ := matchingFrame_time_of_tick place order hsome
    rw [htime] at hclock hskip hlag
    refine ⟨hclock, hskip, hlag, htx', rfl, fun h => ?_, fun _ _ => hlast⟩
    omega
  · have hnone : handOffTick c f (s.advance dt) = none := htick.trans (if_neg hjump)
    have hmoved := (matchingFrame_time_of_no_tick place order hnone).trans htime
    have hlast : (matchingFrame c place order f (s.advance dt)).time.lastTick = s.time.lastTick := by rw [hmoved]; rfl
    refine ⟨congrArg TimeUnit.clock hmoved, congrArg TimeUnit.skipped hmoved, congrArg TimeUnit.laggards hmoved, htx',
      rfl, fun _ => ⟨hlast, congrArg TimeUnit.state hmoved, congrArg TimeUnit.lockTimer hmoved⟩, fun hpos hk => absurd ⟨hpos, hk⟩ hjump⟩

end Sys2Proof.Machine

/-! Bytes, and the status record (R178, section 13.2). -/

namespace Sys2Proof.Machine

/-! ## Fields of several bytes -/

theorem half_toNat (hi lo : Byte) : (half hi lo).toNat = 2 ^ 8 * hi.toNat + lo.toNat := by
  rw [half, BitVec.toNat_append, Nat.shiftLeft_eq, Nat.mul_comm, Nat.two_pow_add_eq_or_of_lt lo.isLt]

theorem word_eq (b3 b2 b1 b0 : Byte) : word b3 b2 b1 b0 = half b3 b2 ++ half b1 b0 := rfl

theorem word_toNat (b3 b2 b1 b0 : Byte) :
    (word b3 b2 b1 b0).toNat = 2 ^ 16 * (half b3 b2).toNat + (half b1 b0).toNat := by
  rw [word_eq, BitVec.toNat_append, Nat.shiftLeft_eq, Nat.mul_comm, Nat.two_pow_add_eq_or_of_lt (half b1 b0).isLt]

/-- A 16-bit field is the half of its bytes. -/
@[simp] theorem half_of_bytes (h : Half) : half (h.extractLsb' 8 8) (h.extractLsb' 0 8) = h := by
  have hlt := h.isLt
  refine BitVec.eq_of_toNat_eq ?_
  rw [half_toNat, BitVec.extractLsb'_toNat, BitVec.extractLsb'_toNat, Nat.shiftRight_eq_div_pow,
    Nat.shiftRight_eq_div_pow]
  omega

/-- A 32-bit field is the word of its bytes. -/
@[simp] theorem word_of_bytes (w : BitVec 32) :
    word (w.extractLsb' 24 8) (w.extractLsb' 16 8) (w.extractLsb' 8 8) (w.extractLsb' 0 8) = w := by
  have hlt := w.isLt
  refine BitVec.eq_of_toNat_eq ?_
  simp only [word_toNat, half_toNat, BitVec.extractLsb'_toNat, Nat.shiftRight_eq_div_pow]
  omega

/-! ## The bytes of a status record -/

theorem SlotState.code_eq (a : SlotState) : ∃ i : Fin 4, a.code = BitVec.ofNat 8 i.val := by
  cases a
  exacts [⟨0, rfl⟩, ⟨1, rfl⟩, ⟨2, rfl⟩, ⟨3, rfl⟩]

theorem shifted_toNat (x y z w : Fin 4) : ((BitVec.ofNat 8 x.val <<< 6) ||| (BitVec.ofNat 8 y.val <<< 4) |||
    (BitVec.ofNat 8 z.val <<< 2) ||| BitVec.ofNat 8 w.val).toNat =
      64 * (BitVec.ofNat 8 x.val).toNat + 16 * (BitVec.ofNat 8 y.val).toNat + 4 * (BitVec.ofNat 8 z.val).toNat +
        (BitVec.ofNat 8 w.val).toNat := by
  revert x y z w; decide

/-- The first of four slot states stands in the two most significant bits. -/
theorem slotByte_toNat (a b d e : SlotState) : (slotByte a b d e).toNat =
    64 * a.code.toNat + 16 * b.code.toNat + 4 * d.code.toNat + e.code.toNat := by
  obtain ⟨i, hi⟩ := a.code_eq
  obtain ⟨j, hj⟩ := b.code_eq
  obtain ⟨k, hk⟩ := d.code_eq
  obtain ⟨l, hl⟩ := e.code_eq
  rw [slotByte, hi, hj, hk, hl]
  exact shifted_toNat i j k l

theorem SlotState.code_lt (a : SlotState) : a.code.toNat < 4 := by cases a <;> decide

theorem SlotState.code_toNat (a : SlotState) : a.code.toNat = match a with
    | .empty => 0
    | .live => 1
    | .aged => 2
    | .clash => 3 := by
  cases a <;> rfl

/-- Each slot state, at its two bits of its byte. -/
theorem slotByte_digits (a b d e : SlotState) : let n := (slotByte a b d e).toNat
    n / 4 ^ 3 % 4 = a.code.toNat ∧ n / 4 ^ 2 % 4 = b.code.toNat ∧ n / 4 ^ 1 % 4 = d.code.toNat ∧
      n / 4 ^ 0 % 4 = e.code.toNat := by
  have ha := a.code_lt
  have hb := b.code_lt
  have hd := d.code_lt
  have he := e.code_lt
  dsimp only
  rw [slotByte_toNat]
  omega

theorem zeroExtend_toNat {n m : Nat} (x : BitVec n) (h : n ≤ m) : (x.zeroExtend m).toNat = x.toNat := by
  exact BitVec.toNat_setWidth_of_le h

/-- The 40 bytes, one by one. -/
theorem encode_eq (r : StatusRecord) : r.encode =
    [4, 40, stationByte r.station, r.drive, r.time, (flagHalf r.flags).extractLsb' 8 8, (flagHalf r.flags).extractLsb' 0 8,
     r.effort.extractLsb' 8 8, r.effort.extractLsb' 0 8, r.integral.extractLsb' 8 8, r.integral.extractLsb' 0 8,
     r.position.extractLsb' 8 8, r.position.extractLsb' 0 8, r.rate.extractLsb' 8 8, r.rate.extractLsb' 0 8,
     r.groupMask.zeroExtend 8, slotByte (r.slots.get 0) (r.slots.get 1) (r.slots.get 2) (r.slots.get 3),
     slotByte (r.slots.get 4) (r.slots.get 5) (r.slots.get 6) (r.slots.get 7),
     slotByte (r.slots.get 8) (r.slots.get 9) (r.slots.get 10) (r.slots.get 11),
     r.present.extractLsb' 24 8, r.present.extractLsb' 16 8, r.present.extractLsb' 8 8, r.present.extractLsb' 0 8, r.test,
     r.testErrors.extractLsb' 8 8, r.testErrors.extractLsb' 0 8, r.collisions.extractLsb' 8 8,
     r.collisions.extractLsb' 0 8, r.corrupted.extractLsb' 8 8, r.corrupted.extractLsb' 0 8, r.skipped.extractLsb' 8 8,
     r.skipped.extractLsb' 0 8, r.coalesces.extractLsb' 8 8, r.coalesces.extractLsb' 0 8, r.lateSamples.extractLsb' 8 8,
     r.lateSamples.extractLsb' 0 8, r.laggards.extractLsb' 8 8, r.laggards.extractLsb' 0 8, r.refused,
     r.lastRefused] := by
  simp only [StatusRecord.encode, halfBytes, wordBytes, List.cons_append, List.nil_append]

theorem encode_slots (r : StatusRecord) (k : Fin 12) :
    (imageByte r.encode (16 + k.val / 4)).toNat / 4 ^ (3 - k.val % 4) % 4 = (r.slots.get k).code.toNat := by
  have h0 := slotByte_digits (r.slots.get 0) (r.slots.get 1) (r.slots.get 2) (r.slots.get 3)
  have h1 := slotByte_digits (r.slots.get 4) (r.slots.get 5) (r.slots.get 6) (r.slots.get 7)
  have h2 := slotByte_digits (r.slots.get 8) (r.slots.get 9) (r.slots.get 10) (r.slots.get 11)
  rw [encode_eq]
  fin_cases k
  exacts [h0.1, h0.2.1, h0.2.2.1, h0.2.2.2, h1.1, h1.2.1, h1.2.2.1, h1.2.2.2, h2.1, h2.2.1, h2.2.2.1, h2.2.2.2]

/-- The bytes of section 13.2. -/
theorem encode_fields (r : StatusRecord) : let b := r.encode
    b.length = 40 ∧ imageByte b 0 = 4 ∧ imageByte b 1 = 40 ∧ (imageByte b 2).toNat = r.station.toNat ∧
    imageByte b 3 = r.drive ∧ imageByte b 4 = r.time ∧ (imageHalf b 5).toNat = r.flags.toNat ∧
    imageHalf b 7 = r.effort ∧ imageHalf b 9 = r.integral ∧ imageHalf b 11 = r.position ∧ imageHalf b 13 = r.rate ∧
    (imageByte b 15).toNat = r.groupMask.toNat ∧
    (∀ k : Fin 12, (imageByte b (16 + k.val / 4)).toNat / 4 ^ (3 - k.val % 4) % 4 = match r.slots.get k with
      | .empty => 0
      | .live => 1
      | .aged => 2
      | .clash => 3) ∧
    imageWord b 19 = r.present ∧ imageByte b 23 = r.test ∧ imageHalf b 24 = r.testErrors ∧
    imageHalf b 26 = r.collisions ∧ imageHalf b 28 = r.corrupted ∧ imageHalf b 30 = r.skipped ∧
    imageHalf b 32 = r.coalesces ∧ imageHalf b 34 = r.lateSamples ∧ imageHalf b 36 = r.laggards ∧
    imageByte b 38 = r.refused ∧ imageByte b 39 = r.lastRefused := by
  have hslots := encode_slots r
  rw [encode_eq] at hslots ⊢
  refine ⟨rfl, rfl, rfl, zeroExtend_toNat r.station (by decide), rfl, rfl, ?_, half_of_bytes _, half_of_bytes _, half_of_bytes _,
    half_of_bytes _, zeroExtend_toNat r.groupMask (by decide), fun k => ?_, word_of_bytes _, rfl, half_of_bytes _, half_of_bytes _,
    half_of_bytes _, half_of_bytes _, half_of_bytes _, half_of_bytes _, half_of_bytes _, rfl, rfl⟩
  · exact (congrArg BitVec.toNat (half_of_bytes (flagHalf r.flags))).trans (zeroExtend_toNat _ (by decide))
  · exact (hslots k).trans (SlotState.code_toNat _)

/-! ## The status record that is captured -/

theorem DriveState.statusCode_of_ne_off (st : DriveState) : st ≠ .off → st.statusCode = some (match st with
    | .active => 1
    | .hold => 2
    | .coast => 3
    | .disarmed | .off => 0) := by
  cases st
  case off => exact fun h => absurd rfl h
  all_goals exact fun _ => rfl

theorem TimeState.statusCode_of_ne_stopped (st : TimeState) : st ≠ .stopped → st.statusCode = some (match st with
    | .locked => 1
    | .adrift => 2
    | .alone | .stopped => 0) := by
  cases st
  case stopped => exact fun h => absurd rfl h
  all_goals exact fun _ => rfl

theorem shiftedBit_getLsbD (j i : Fin 32) : (1#32 <<< j.val).getLsbD i.val = decide (i = j) := by
  revert i j; decide

/-- One station's step of the mask sets that station's bit alone. -/
theorem presentStep_getLsbD (m : StationMask) (p : Bool) (j i : Fin 32) :
    (if p then m ||| (1#32 <<< j.val) else m).getLsbD i.val = (m.getLsbD i.val || decide (i = j) && p) := by
  cases p with
  | false => simp
  | true => rw [if_pos rfl, BitVec.getLsbD_or, shiftedBit_getLsbD, Bool.and_true]

theorem foldl_presentStep_getLsbD (roster : Vector StationRecord 32) (i : Fin 32) (l : List (Fin 32))
    (m : StationMask) :
    (l.foldl (fun m j => if (roster.get j).present then m ||| (1#32 <<< j.val) else m) m).getLsbD i.val =
      (m.getLsbD i.val || decide (i ∈ l) && (roster.get i).present) := by
  induction l generalizing m with
  | nil => simp
  | cons j l ih =>
    rw [List.foldl_cons, ih, presentStep_getLsbD]
    by_cases hij : i = j
    · subst hij
      cases (roster.get i).present <;> simp
    · simp [hij]

/-- Each station that is present has its bit in the mask. -/
theorem presentMask_getLsbD (roster : Vector StationRecord 32) (i : Fin 32) :
    (presentMask roster).getLsbD i.val = (roster.get i).present := by
  rw [presentMask, foldl_presentStep_getLsbD]
  simp

/-- A status record is captured where the drive and the time state both have a code. -/
theorem State.capturedStatus_eq {c : Settings} {s : State} {d t : Byte} (hd : s.drive.state.statusCode = some d)
    (ht : s.time.state.statusCode = some t) : s.capturedStatus c = some {
      station := c.station, drive := d, time := t, flags := s.fault.flags,
      effort := toHalf s.mix.effort, integral := toHalf s.mix.integralValue,
      position := toHalf ((s.mix.history.map (·.position)).getD 0),
      rate := toHalf ((s.mix.history.map (·.rate)).getD 0), groupMask := s.mix.mask,
      slots := Vector.ofFn fun k => (s.listen.get k).state, present := presentMask s.rx.roster,
      test := s.test.state.code, testErrors := countHalf s.test.errors,
      collisions := countHalf s.bus.collisionTotal, corrupted := countHalf s.rx.corrupted,
      skipped := countHalf s.time.skipped, coalesces := countHalf s.pub.coalesces,
      lateSamples := countHalf (lateSamples c s.listen), laggards := countHalf s.time.laggards,
      refused := BitVec.ofNat 8 s.req.refused, lastRefused := refusedCode s.req.lastRefused } := by
  rw [State.capturedStatus, hd, ht]
  rfl

/-- Settles O14: the 40 bytes one by one, and the captured record field by field. -/
theorem statusRecordReadsEveryBlock : Obligations.StatusRecordReadsEveryBlock := by
  refine ⟨encode_fields, fun c s => ⟨fun h => ?_, fun hdrive htime => ?_⟩⟩
  · rcases h with h | h
    · simp [State.capturedStatus, h, DriveState.statusCode]
    · simp [State.capturedStatus, h, TimeState.statusCode]
  · have hcaptured := State.capturedStatus_eq (c := c) (DriveState.statusCode_of_ne_off _ hdrive)
      (TimeState.statusCode_of_ne_stopped _ htime)
    refine ⟨_, hcaptured, rfl, ?_, ?_, rfl, rfl, rfl, fun h => ?_, fun v h => ?_, rfl, fun k => get_ofFn .., fun j =>
      presentMask_getLsbD .., ?_, rfl, rfl, rfl, rfl, rfl, rfl, rfl, rfl, ?_⟩
    · cases s.drive.state <;> rfl
    · cases s.time.state <;> rfl
    · rw [h]; exact ⟨rfl, rfl⟩
    · rw [h]; exact ⟨rfl, rfl⟩
    · cases s.test.state <;> rfl
    · rcases s.req.lastRefused with _ | k
      · rfl
      · cases k <;> rfl

end Sys2Proof.Machine

/-! The frame copy: what a DATA frame holds, and that it fits (R12–R14, R65). -/

namespace Sys2Proof.Machine

/-! ## The lengths of the records -/

theorem length_flatMap_halfBytes (l : List Half) : (l.flatMap halfBytes).length = 2 * l.length := by
  induction l with
  | nil => rfl
  | cons h l ih =>
    rw [List.flatMap_cons, List.length_append, ih, List.length_cons, halfBytes, List.length_cons, List.length_cons,
      List.length_nil]
    omega

@[simp] theorem length_encodeTag (r : TagRecord) : (encodeTag r).length = 9 + 2 * r.values.length := by
  rw [encodeTag, List.length_append, length_flatMap_halfBytes]
  rfl

@[simp] theorem length_encodeNote (r : NoteRecord) : (encodeNote r).length = 10 := rfl

@[simp] theorem length_encodeRequest (r : RequestRecord) : r.encode.length = 11 := rfl

@[simp] theorem length_encodeStatus (r : StatusRecord) : r.encode.length = 40 := (encode_fields r).1

@[simp] theorem length_encodeTest (b : TestBlock) : (encodeTest b).length = 5 + b.pattern.length := by
  rw [encodeTest, List.length_append]
  rfl

@[simp] theorem length_pattern (index : Nat) : (pattern index).length = 32 := by simp [pattern]

theorem length_flatMap_requests (l : List PendingRequest) :
    (l.flatMap (fun r => r.toRecord.encode)).length = 11 * l.length := by
  induction l with
  | nil => rfl
  | cons r l ih =>
    rw [List.flatMap_cons, List.length_append, ih, length_encodeRequest, List.length_cons]
    omega

/-- The bytes of the TAG records of some entries. -/
def sizes (l : List OutboxEntry) : Nat := (l.map OutboxEntry.size).sum

theorem length_flatMap_entries (l : List OutboxEntry) :
    ((l.map OutboxEntry.record).flatMap encodeTag).length = sizes l := by
  induction l with
  | nil => rfl
  | cons e l ih =>
    rw [List.map_cons, List.flatMap_cons, List.length_append, ih, length_encodeTag]
    rfl

/-! ## The entries that fit -/

theorem fitCount_le_length (space : Nat) (l : List OutboxEntry) : fitCount space l ≤ l.length := by
  induction l generalizing space with
  | nil => exact Nat.le_refl 0
  | cons e l ih =>
    rw [fitCount, List.length_cons]
    split
    · exact Nat.succ_le_succ (ih _)
    · omega

theorem sizes_fitCount_le (space : Nat) (l : List OutboxEntry) : sizes (l.take (fitCount space l)) ≤ space := by
  induction l generalizing space with
  | nil => exact Nat.zero_le space
  | cons e l ih =>
    rw [fitCount]
    split
    · have hrest := ih (space - e.size)
      rw [List.take_succ_cons, sizes, List.map_cons, List.sum_cons]
      rw [sizes] at hrest
      omega
    · exact Nat.zero_le space

/-- The entry behind those that fit does not. -/
theorem lt_sizes_fitCount (space : Nat) (l : List OutboxEntry) (e : OutboxEntry)
    (he : l[fitCount space l]? = some e) : space < sizes (l.take (fitCount space l)) + e.size := by
  induction l generalizing space with
  | nil => exact absurd he (by simp)
  | cons x l ih =>
    rw [fitCount] at he ⊢
    split at he
    case isTrue hfits =>
      have hrest := ih (space - x.size) (by simpa using he)
      rw [if_pos hfits, List.take_succ_cons, sizes, List.map_cons, List.sum_cons]
      rw [sizes] at hrest
      omega
    case isFalse hno =>
      obtain rfl : x = e := by simpa using he
      rw [if_neg hno, List.take_zero]
      exact Nat.lt_of_not_le (fun h => hno (Nat.le_trans (Nat.le_add_left ..) h))

/-! ## The payload -/

theorem RequestUnit.length_le_of_onePerInput {r : RequestUnit} (h : r.OnePerInput) : r.list.length ≤ 4 := by
  have hcard := List.Nodup.length_le_card h
  rwa [List.length_map, Fintype.card_fin] at hcard

theorem State.urgentBytes_le {s : State} (h : s.req.OnePerInput) : s.urgentBytes ≤ 54 := by
  have hlist := RequestUnit.length_le_of_onePerInput h
  rw [State.urgentBytes]
  split <;> omega

/-- The bytes of the status record that is taken. -/
def State.statusBytes (c : Settings) (s : State) : Nat := if (s.statusTaken c).isSome then 40 else 0

theorem length_note (u : FaultUnit) :
    ((u.capturedNote.map encodeNote).getD []).length = if u.notePending then 10 else 0 := by
  rw [FaultUnit.capturedNote]
  cases u.notePending <;> rfl

theorem length_status (r : Option StatusRecord) :
    ((r.map StatusRecord.encode).getD []).length = if r.isSome then 40 else 0 := by
  cases r with
  | none => rfl
  | some r => exact length_encodeStatus r

theorem State.statusTaken_fits (c : Settings) (s : State) (h : (s.statusTaken c).isSome) : s.urgentBytes + 40 ≤ 64 := by
  rw [State.statusTaken] at h
  split at h
  case isTrue hfits => exact hfits.2
  case isFalse => exact absurd h (by simp)

theorem State.urgentBytes_statusBytes_le (c : Settings) {s : State} (h : s.req.OnePerInput) :
    s.urgentBytes + s.statusBytes c ≤ 64 := by
  have hurgent := State.urgentBytes_le h
  have hstatus := s.statusTaken_fits c
  rw [State.statusBytes]
  split
  case isTrue hsome => exact hstatus hsome
  case isFalse => omega

theorem State.entriesTaken_eq (c : Settings) (s : State) :
    s.entriesTaken c = fitCount (64 - s.urgentBytes - s.statusBytes c) s.pub.outbox := rfl

/-- A DATA frame's payload: the note and the requests, the status record, the entries. -/
theorem length_payload_of_data {c : Settings} {k : BusClass} {s : State} (h : s.frameKind = .data) :
    (s.frameCopy c k).payload.length =
      s.urgentBytes + s.statusBytes c + sizes (s.pub.outbox.take (s.entriesTaken c)) := by
  simp only [FrameCopy.payload, State.frameCopy, h, decide_true, if_true, List.length_append, length_note,
    length_flatMap_requests, length_status, length_flatMap_entries, State.urgentBytes, State.statusBytes]

theorem length_payload_of_test {c : Settings} {k : BusClass} {s : State} (h : s.frameKind = .test) :
    (s.frameCopy c k).payload.length = 37 := by
  simp [FrameCopy.payload, State.frameCopy, h, TestUnit.block]

/-- A TEST frame starts only where a test is due and nothing urgent is pending. -/
theorem State.frameKind_eq_test_iff (s : State) : s.frameKind = .test ↔
    s.test.due = true ∧ s.fault.notePending = false ∧ s.pub.escalated = false ∧ s.req.list = [] := by
  rw [State.frameKind]
  cases s.test.due <;> cases s.fault.notePending <;> cases s.pub.escalated <;> simp

theorem length_payload_le (c : Settings) (k : BusClass) {s : State} (h : s.req.OnePerInput) :
    (s.frameCopy c k).payload.length ≤ 64 := by
  cases hk : s.frameKind with
  | data =>
    have hfit := sizes_fitCount_le (64 - s.urgentBytes - s.statusBytes c) s.pub.outbox
    have hurgent := State.urgentBytes_statusBytes_le c h
    rw [length_payload_of_data hk, State.entriesTaken_eq]
    omega
  | test => rw [length_payload_of_test hk]; decide

/-- No further entry fits behind those that a DATA frame takes. -/
theorem lt_length_payload_add_size {c : Settings} {k : BusClass} {s : State} (hk : s.frameKind = .data)
    {e : OutboxEntry} (he : s.pub.outbox[s.entriesTaken c]? = some e) :
    64 < (s.frameCopy c k).payload.length + (9 + 2 * e.values.length) := by
  rw [State.entriesTaken_eq] at he
  have hnext := lt_sizes_fitCount _ s.pub.outbox e he
  rw [length_payload_of_data hk, State.entriesTaken_eq]
  rw [OutboxEntry.size] at hnext
  omega

/-- Settles O13: by the lengths of the records, and the count of the entries that fit. -/
theorem frameCopyHoldsWhatFits : Obligations.FrameCopyHoldsWhatFits := by
  intro c k s hone f
  have hkind : f.kind = s.frameKind := rfl
  refine ⟨rfl, rfl, rfl, rfl, rfl, length_payload_le c k hone, s.frameKind_eq_test_iff, fun htest => ?_, fun hdata => ?_⟩
  · rw [hkind] at htest
    simp [f, State.frameCopy, htest]
  · rw [hkind] at hdata
    refine ⟨?_, ?_, ?_, ?_, s.entriesTaken c, fitCount_le_length .., ?_, fun e => lt_length_payload_add_size hdata⟩
    · simp [f, State.frameCopy, hdata]
    · simp [f, State.frameCopy, hdata]
    · simp only [f, State.frameCopy, hdata, decide_true, if_true, FaultUnit.capturedNote]
    · simp only [f, State.frameCopy, hdata, decide_true, if_true, State.statusTaken]
      rfl
    · simp only [f, State.frameCopy, hdata, decide_true, if_true]
      rfl

end Sys2Proof.Machine

/-! Heard frames, by their bytes (R3, R39, R204). -/

namespace Sys2Proof.Machine

/-! ## The check -/

theorem halfBytes_half (x y : Byte) : halfBytes (half x y) = [x, y] := by
  have hx := x.isLt
  have hy := y.isLt
  have hhigh : (half x y).extractLsb' 8 8 = x := by
    refine BitVec.eq_of_toNat_eq ?_
    rw [BitVec.extractLsb'_toNat, half_toNat, Nat.shiftRight_eq_div_pow]
    omega
  have hlow : (half x y).extractLsb' 0 8 = y := by
    refine BitVec.eq_of_toNat_eq ?_
    rw [BitVec.extractLsb'_toNat, half_toNat, Nat.shiftRight_eq_div_pow]
    omega
  rw [halfBytes, hhigh, hlow]

/-- Two bytes are those of a half exactly where the half is theirs. -/
theorem eq_halfBytes_iff (x y : Byte) (h : Half) : [x, y] = halfBytes h ↔ h = half x y := by
  constructor
  · intro heq
    rw [halfBytes, List.cons.injEq, List.cons.injEq] at heq
    obtain ⟨rfl, rfl, -⟩ := heq
    exact (half_of_bytes h).symm
  · rintro rfl
    exact (halfBytes_half x y).symm

/-- The last two bytes of a stretch are the check of the bytes before them. -/
theorem check_iff (head rest : List Byte) (n : Nat) (hlen : rest.length = n + 2) :
    rest.drop n = halfBytes (crc16 (head ++ rest.take n)) ↔
      crc16 ((head ++ rest).take (head.length + n)) = imageHalf (head ++ rest) (head.length + n) := by
  obtain ⟨x, y, hxy⟩ : ∃ x y, rest.drop n = [x, y] := by
    rw [← List.length_eq_two, List.length_drop]
    omega
  obtain ⟨front, hn, rfl⟩ : ∃ front : List Byte, front.length = n ∧ rest = front ++ [x, y] :=
    ⟨rest.take n, by rw [List.length_take]; omega, by rw [← hxy, List.take_append_drop]⟩
  subst hn
  have hhalf : imageHalf (head ++ (front ++ [x, y])) (head.length + front.length) = half x y := by
    simp [imageHalf, imageByte, List.getD_eq_getElem?_getD, Nat.add_assoc]
  rw [hhalf, List.drop_left, List.take_left, eq_halfBytes_iff, ← List.append_assoc, ← List.length_append, List.take_left]

/-! ## The header -/

theorem firstByte_class (b : Byte) : (b >>> 6).toNat = b.toNat / 64 := by
  rw [BitVec.toNat_ushiftRight, Nat.shiftRight_eq_div_pow]

theorem firstByte_station (b : Byte) : b.extractLsb' 1 5 = BitVec.ofNat 5 (b.toNat / 2) := by
  refine BitVec.eq_of_toNat_eq ?_
  rw [BitVec.extractLsb'_toNat, Nat.shiftRight_eq_div_pow, BitVec.toNat_ofNat]

theorem firstByte_kind (b : Byte) : b.getLsbD 0 = decide (b.toNat % 2 = 1) := by
  rw [BitVec.getLsbD, Nat.testBit_zero]

/-- The first header byte is its three fields. -/
theorem firstByte_fields (k : BusClass) (station : Station) (kind : FrameKind) :
    let b := (k.code <<< 6) ||| (stationByte station <<< 1) ||| (if kind = .test then 1 else 0)
    (b >>> 6).toNat = k.code.toNat ∧ b.extractLsb' 1 5 = station ∧ b.getLsbD 0 = decide (kind = .test) := by
  revert station
  cases k <;> cases kind <;> decide

theorem BusClass.code_ne_three (k : BusClass) : k.code.toNat ≠ 3 := by cases k <;> decide

/-! ## Reading a frame -/

/-- A heard stretch that is too short for a header is no frame. -/
theorem readFrame_of_short {heard : Heard} (h : heard.bytes.length < 8) : readFrame heard = none := by
  obtain ⟨bytes, stray⟩ := heard
  match bytes, h with
  | [], _ | [_], _ | [_, _], _ | [_, _, _], _ | [_, _, _, _], _ | [_, _, _, _, _], _ | [_, _, _, _, _, _], _
  | [_, _, _, _, _, _, _], _ => rfl

theorem cons_of_length_pos {l : List Byte} {n : Nat} (h : n + 1 ≤ l.length) : ∃ x t, l = x :: t ∧ n ≤ t.length := by
  cases l with
  | nil => exact absurd h (by simp)
  | cons x t => exact ⟨x, t, rfl, by simpa using h⟩

theorem seven_of_length {l : List Byte} (h : 7 ≤ l.length) :
    ∃ b0 b1 b2 b3 b4 b5 b6 rest, l = b0 :: b1 :: b2 :: b3 :: b4 :: b5 :: b6 :: rest := by
  obtain ⟨b0, l, rfl, h0⟩ := cons_of_length_pos h
  obtain ⟨b1, l, rfl, h1⟩ := cons_of_length_pos h0
  obtain ⟨b2, l, rfl, h2⟩ := cons_of_length_pos h1
  obtain ⟨b3, l, rfl, h3⟩ := cons_of_length_pos h2
  obtain ⟨b4, l, rfl, h4⟩ := cons_of_length_pos h3
  obtain ⟨b5, l, rfl, h5⟩ := cons_of_length_pos h4
  obtain ⟨b6, l, rfl, -⟩ := cons_of_length_pos h5
  exact ⟨b0, b1, b2, b3, b4, b5, b6, l, rfl⟩

theorem eight_of_length {l : List Byte} (h : 8 ≤ l.length) :
    ∃ b0 b1 b2 b3 b4 b5 b6 b7 rest, l = b0 :: b1 :: b2 :: b3 :: b4 :: b5 :: b6 :: b7 :: rest := by
  obtain ⟨b0, l, rfl, h0⟩ := cons_of_length_pos h
  obtain ⟨b1, b2, b3, b4, b5, b6, b7, rest, rfl⟩ := seven_of_length h0
  exact ⟨b0, b1, b2, b3, b4, b5, b6, b7, rest, rfl⟩

/-- What a heard stretch is, by its bytes. -/
theorem readFrame_by_bytes (heard : Heard) : let b := heard.bytes
    let n := (imageByte b 3).toNat
    readFrame heard =
      if heard.stray = false ∧ 10 ≤ b.length ∧ b.length = 10 + n ∧ n ≤ 64 ∧ (imageByte b 0).toNat / 64 ≠ 3 ∧
          crc16 (b.take (8 + n)) = imageHalf b (8 + n) then
        some { cls := (imageByte b 0).toNat / 64, station := BitVec.ofNat 5 ((imageByte b 0).toNat / 2)
               kind := if (imageByte b 0).toNat % 2 = 1 then .test else .data, period := imageByte b 1
               sequence := imageByte b 2, length := n, stamp := imageWord b 4, payload := (b.drop 8).take n }
      else none := by
  intro b n
  by_cases hshort : heard.bytes.length < 8
  · rw [readFrame_of_short hshort, if_neg]
    rintro ⟨-, hlong, -⟩
    exact absurd (Nat.lt_of_lt_of_le hshort (by decide : 8 ≤ 10)) (Nat.not_lt.mpr hlong)
  · obtain ⟨bytes, stray⟩ := heard
    obtain ⟨b0, b1, b2, b3, b4, b5, b6, b7, rest, rfl⟩ := eight_of_length (Nat.le_of_not_lt hshort)
    have hlength : b.length = rest.length + 8 := rfl
    have hn : n = b3.toNat := rfl
    have hcheck := check_iff [b0, b1, b2, b3, b4, b5, b6, b7] rest n
    refine if_congr ?_ ?_ rfl
    · constructor
      · rintro ⟨hstray, htwo, hmax, hclass, hcrc⟩
        rw [List.length_drop] at htwo
        rw [firstByte_class] at hclass
        refine ⟨hstray, by omega, by omega, hmax, hclass, (hcheck (by omega)).mp hcrc⟩
      · rintro ⟨hstray, -, hlen, hmax, hclass, hcrc⟩
        rw [← firstByte_class] at hclass
        refine ⟨hstray, ?_, hmax, hclass, (hcheck (by omega)).mpr hcrc⟩
        rw [List.length_drop]
        omega
    · rw [firstByte_class, firstByte_station, firstByte_kind]
      simp only [decide_eq_true_eq]
      rfl

/-! ## A frame that this station sends -/

/-- The bytes of a sent frame: header, payload, check. -/
theorem FrameCopy.bytes_eq (f : FrameCopy) : f.bytes =
    ((f.cls.code <<< 6) ||| (stationByte f.station <<< 1) ||| (if f.kind = .test then 1 else 0)) ::
      BitVec.ofNat 8 f.period :: f.sequence :: BitVec.ofNat 8 f.payload.length :: f.stamp.extractLsb' 24 8 ::
      f.stamp.extractLsb' 16 8 :: f.stamp.extractLsb' 8 8 :: f.stamp.extractLsb' 0 8 ::
      (f.payload ++ halfBytes (crc16 (f.header ++ f.payload))) := by
  simp only [FrameCopy.bytes, FrameCopy.header, wordBytes, List.cons_append, List.nil_append]

theorem readFrame_of_sent (f : FrameCopy) (hmax : f.payload.length ≤ 64) :
    readFrame { bytes := f.bytes, stray := false } = some
      { cls := f.cls.code.toNat, station := f.station, kind := f.kind, period := BitVec.ofNat 8 f.period,
        sequence := f.sequence, length := f.payload.length, stamp := f.stamp, payload := f.payload } := by
  obtain ⟨hclass, hstation, hkind⟩ := firstByte_fields f.cls f.station f.kind
  have hlength : (BitVec.ofNat 8 f.payload.length).toNat = f.payload.length := by
    rw [BitVec.toNat_ofNat]
    omega
  have hcode : (if decide (f.kind = .test) then FrameKind.test else .data) = f.kind := by cases f.kind <;> rfl
  rw [FrameCopy.bytes_eq]
  simp only [readFrame, hclass, hstation, hkind, hlength, hcode, List.take_left, List.drop_left, word_of_bytes]
  exact if_pos ⟨trivial, rfl, hmax, f.cls.code_ne_three, rfl⟩

theorem readFrame_of_stray (bytes : List Byte) : readFrame { bytes := bytes, stray := true } = none := by
  rw [readFrame_by_bytes, if_neg]
  rintro ⟨h, -⟩
  exact Bool.noConfusion h

/-- Settles O49: the header's fields by the arithmetic of its first byte, the check by the last two bytes. -/
theorem heardFrameIsReadByItsBytes : Obligations.HeardFrameIsReadByItsBytes :=
  ⟨readFrame_by_bytes, fun f hmax => ⟨(readFrame_of_sent f hmax).trans (by cases f.cls <;> rfl),
    readFrame_of_stray _⟩⟩

end Sys2Proof.Machine

/-! The payload, by its bytes: the walk of its records, and what a sent frame gives back (R45, R46, R205). -/

namespace Sys2Proof.Machine

/-! ## Reading at an offset -/

theorem imageByte_eq (b : List Byte) (i : Nat) : imageByte b i = (b[i]?).getD 0 :=
  List.getD_eq_getElem?_getD

theorem imageHalf_toNat (b : List Byte) (i : Nat) :
    (imageHalf b i).toNat = 2 ^ 8 * (imageByte b i).toNat + (imageByte b (i + 1)).toNat :=
  half_toNat ..

theorem imageWord_toNat (b : List Byte) (i : Nat) :
    (imageWord b i).toNat = 2 ^ 16 * (imageHalf b i).toNat + (imageHalf b (i + 2)).toNat :=
  word_toNat ..

theorem imageHalf_append (head l : List Byte) (i : Nat) : imageHalf (head ++ l) (head.length + i) = imageHalf l i := by
  rw [imageHalf, imageHalf, imageByte_eq, imageByte_eq, imageByte_eq, imageByte_eq, Nat.add_assoc,
    List.getElem?_append_right (Nat.le_add_right ..), List.getElem?_append_right (Nat.le_add_right ..),
    Nat.add_sub_cancel_left, Nat.add_sub_cancel_left]

/-! ## The values of a TAG record -/

@[simp] theorem halves_halfBytes (h : Half) (rest : List Byte) :
    halves (halfBytes h ++ rest) = (halves rest).map (h :: ·) := by
  rw [halfBytes, List.cons_append, List.cons_append, List.nil_append, halves, half_of_bytes]

theorem halves_flatMap (vs : List Half) : halves (vs.flatMap halfBytes) = some vs := by
  induction vs with
  | nil => rfl
  | cons h vs ih => rw [List.flatMap_cons, halves_halfBytes, ih, Option.map_some]

/-- The values that are read are those of the bytes. -/
theorem eq_flatMap_of_halves {l : List Byte} {vs : List Half} (h : halves l = some vs) :
    l = vs.flatMap halfBytes := by
  fun_induction halves l generalizing vs with
  | case1 => rw [Option.some.inj h.symm]; rfl
  | case2 => cases h
  | case3 hi lo rest ih =>
    obtain ⟨vs, hvs, rfl⟩ := Option.map_eq_some_iff.mp h
    rw [List.flatMap_cons, halfBytes_half, ← ih hvs]
    rfl

theorem length_of_halves {l : List Byte} {vs : List Half} (h : halves l = some vs) : l.length = 2 * vs.length := by
  rw [eq_flatMap_of_halves h, length_flatMap_halfBytes]

theorem exists_halves {l : List Byte} {n : Nat} (h : l.length = 2 * n) : ∃ vs, halves l = some vs ∧ vs.length = n := by
  induction n generalizing l with
  | zero => exact ⟨[], by rw [List.length_eq_zero_iff.mp h]; rfl, rfl⟩
  | succ n ih =>
    obtain ⟨hi, l, rfl, hl⟩ := cons_of_length_pos (l := l) (n := 2 * n + 1) (by omega)
    obtain ⟨lo, l, rfl, -⟩ := cons_of_length_pos hl
    rw [List.length_cons, List.length_cons] at h
    obtain ⟨vs, hvs, hlen⟩ := ih (l := l) (by omega)
    exact ⟨half hi lo :: vs, by rw [halves, hvs, Option.map_some], by rw [List.length_cons, hlen]⟩

theorem imageHalf_flatMap {vs : List Half} {j : Nat} {v : Half} (h : vs[j]? = some v) :
    imageHalf (vs.flatMap halfBytes) (2 * j) = v := by
  induction vs generalizing j with
  | nil => exact absurd h (by simp)
  | cons x vs ih =>
    cases j with
    | zero =>
      obtain rfl : x = v := Option.some.inj h
      exact half_of_bytes x
    | succ j =>
      have hnext := imageHalf_append (halfBytes x) (vs.flatMap halfBytes) (2 * j)
      rw [List.flatMap_cons, Nat.mul_succ, Nat.add_comm]
      exact hnext.trans (ih h)

/-! ## One record -/

/-- The lengths and codes that make a record usable (R205). -/
def usable (kind : Byte) (b : List Byte) : Prop :=
  let n := (imageByte b 3).toNat
  let code := (imageByte b 2).toNat
  (kind = 1 ∧ (n = 1 ∨ n = 2 ∨ n = 4) ∧ b.length = 9 + 2 * n) ∨ (kind = 2 ∧ b.length = 10) ∨
    (kind = 3 ∧ b.length = 11 ∧ 1 ≤ code ∧ code ≤ 6 ∧ (5 ≤ code → (imageByte b 8).toNat ≤ 31)) ∨
    (kind = 4 ∧ b.length = 40)

theorem usable_of_readRecord {kind : Byte} {body : List Byte} (length : Byte)
    (h : (readRecord kind body).isSome = true) : usable kind (kind :: length :: body) := by
  revert h
  fun_cases readRecord kind body with
  | case2 tag n spacing s3 s2 s1 s0 rest hkind values hvalues hn =>
    have hlen := length_of_halves hvalues
    obtain ⟨hcount, hlegal⟩ := hn
    refine fun _ => .inl ⟨BitVec.eq_of_toNat_eq hkind, hlegal, ?_⟩
    change rest.length + 9 = 9 + 2 * n.toNat
    omega
  | case4 n1 n0 a1 a0 s3 s2 s1 s0 hkind => exact fun _ => .inr (.inl ⟨BitVec.eq_of_toNat_eq hkind, rfl⟩)
  | case7 code origin m3 m2 m1 m0 sender c1 c0 hkind k hcode htest =>
    have hcode := RequestKind.ofCode_eq_some.mp hcode
    have hrange := k.code_range
    refine fun _ => .inr (.inr (.inl ⟨BitVec.eq_of_toNat_eq hkind, rfl, ?_, ?_, fun hfive => ?_⟩))
    · exact hcode ▸ hrange.1
    · exact hcode ▸ hrange.2
    · exact Nat.le_of_not_lt fun hbig => htest ⟨k.isTest_iff.mpr (hcode ▸ hfive), hbig⟩
  | case8 _ hkind hlen =>
    refine fun _ => .inr (.inr (.inr ⟨BitVec.eq_of_toNat_eq hkind, ?_⟩))
    rw [List.length_cons, List.length_cons, hlen]
  | case1 | case3 | case5 | case6 | case9 | case10 => nofun

theorem readRecord_tag_of_length {b : List Byte} {n : Nat} (hn : n = 1 ∨ n = 2 ∨ n = 4) (length : Byte)
    (hcount : (imageByte (1 :: length :: b) 3).toNat = n) (hlen : b.length = 7 + 2 * n) :
    (readRecord 1 b).isSome = true := by
  obtain ⟨tag, c, spacing, s3, s2, s1, s0, rest, rfl⟩ := seven_of_length (l := b) (by omega)
  change c.toNat = n at hcount
  obtain ⟨vs, hvs, hvslen⟩ := exists_halves (l := rest) (n := n) (by simp only [List.length_cons] at hlen; omega)
  simp only [readRecord, BitVec.reduceToNat, hvs, hcount, hvslen, hn, and_self, if_true, Option.isSome_some]

theorem readRecord_note_of_length {b : List Byte} (hlen : b.length = 8) : (readRecord 2 b).isSome = true := by
  obtain ⟨n1, n0, a1, a0, s3, s2, s1, s0, rest, rfl⟩ := eight_of_length (l := b) (by omega)
  obtain rfl : rest = [] := List.length_eq_zero_iff.mp (by simp only [List.length_cons] at hlen; omega)
  rfl

theorem readRecord_request_of_length {b : List Byte} (length : Byte) (hlen : b.length = 9)
    (hcode : 1 ≤ (imageByte (3 :: length :: b) 2).toNat ∧ (imageByte (3 :: length :: b) 2).toNat ≤ 6)
    (hsender : 5 ≤ (imageByte (3 :: length :: b) 2).toNat → (imageByte (3 :: length :: b) 8).toNat ≤ 31) :
    (readRecord 3 b).isSome = true := by
  obtain ⟨code, origin, m3, m2, m1, m0, sender, c1, rest, rfl⟩ := eight_of_length (l := b) (by omega)
  obtain ⟨c0, rfl⟩ : ∃ c0, rest = [c0] := List.length_eq_one_iff.mp (by simp only [List.length_cons] at hlen; omega)
  change 1 ≤ code.toNat ∧ code.toNat ≤ 6 at hcode
  change 5 ≤ code.toNat → sender.toNat ≤ 31 at hsender
  obtain ⟨k, hk⟩ := RequestKind.code_surj hcode
  have hno : ¬(k.isTest = true ∧ 31 < sender.toNat) := fun ⟨htest, hbig⟩ =>
    absurd (hsender (hk ▸ k.isTest_iff.mp htest)) (Nat.not_le.mpr hbig)
  simp only [readRecord, BitVec.reduceToNat, RequestKind.ofCode_eq_some.mpr hk, if_neg hno, Option.isSome_some]

/-- A record is read exactly where it is usable. -/
theorem readRecord_isSome_iff (kind length : Byte) (body : List Byte) :
    (readRecord kind body).isSome = true ↔ usable kind (kind :: length :: body) := by
  refine ⟨usable_of_readRecord length, ?_⟩
  rintro (⟨rfl, hn, hlen⟩ | ⟨rfl, hlen⟩ | ⟨rfl, hlen, hlow, hhigh, hsender⟩ | ⟨rfl, hlen⟩)
  · exact readRecord_tag_of_length hn length rfl (by simp only [List.length_cons] at hlen ⊢; omega)
  · exact readRecord_note_of_length (by simpa using hlen)
  · exact readRecord_request_of_length length (by simpa using hlen) ⟨hlow, hhigh⟩ hsender
  · have h38 : body.length = 38 := by simpa using hlen
    simp only [readRecord, BitVec.reduceToNat, h38, if_true, Option.isSome_some]

/-- Every field of a record stands at its offset of section 13.2. -/
theorem readRecord_fields (kind length : Byte) (body : List Byte) (r : Record) :
    let b := kind :: length :: body
    readRecord kind body = some r → match r with
      | .tag x => kind = 1 ∧ x.tag = imageByte b 2 ∧ x.values.length = (imageByte b 3).toNat ∧
          x.spacing = imageByte b 4 ∧ x.newest = imageWord b 5 ∧
          ∀ (j : Nat) (v : Half), x.values[j]? = some v → v = imageHalf b (9 + 2 * j)
      | .note x => kind = 2 ∧ x.newlyRaised = (imageHalf b 2).truncate 14 ∧ x.allSet = (imageHalf b 4).truncate 14 ∧
          x.firstRaise = imageWord b 6
      | .request x => kind = 3 ∧ x.origin = imageByte b 3 ∧ x.mask = imageWord b 4 ∧ x.sender = imageByte b 8 ∧
          x.count = imageHalf b 9 ∧ (imageByte b 2).toNat = match x.kind with
            | .arm => 1
            | .disarm => 2
            | .clear => 3
            | .query => 4
            | .testStart => 5
            | .testStop => 6
      | .status => kind = 4 := by
  intro b
  fun_cases readRecord kind body with
  | case2 tag n spacing s3 s2 s1 s0 rest hkind values hvalues hn =>
    intro h
    obtain rfl := Option.some.inj h
    refine ⟨BitVec.eq_of_toNat_eq hkind, rfl, hn.1, rfl, rfl, fun j v hv => ?_⟩
    have hat := imageHalf_append [kind, length, tag, n, spacing, s3, s2, s1, s0] rest (2 * j)
    rw [eq_flatMap_of_halves hvalues, imageHalf_flatMap hv, ← eq_flatMap_of_halves hvalues] at hat
    exact hat.symm
  | case4 n1 n0 a1 a0 s3 s2 s1 s0 hkind =>
    intro h
    obtain rfl := Option.some.inj h
    exact ⟨BitVec.eq_of_toNat_eq hkind, rfl, rfl, rfl⟩
  | case7 code origin m3 m2 m1 m0 sender c1 c0 hkind k hcode htest =>
    intro h
    obtain rfl := Option.some.inj h
    have hcode := (RequestKind.ofCode_eq_some.mp hcode).symm
    exact ⟨BitVec.eq_of_toNat_eq hkind, rfl, rfl, rfl, rfl, hcode.trans (by cases k <;> rfl)⟩
  | case8 _ hkind hlen =>
    intro h
    obtain rfl := Option.some.inj h
    exact BitVec.eq_of_toNat_eq hkind
  | case1 | case3 | case5 | case6 | case9 | case10 => nofun

/-! ## The walk -/

/-- The walk does not depend on its fuel, where the fuel is enough. -/
theorem walkFrom_eq (fuel fuel' : Nat) (payload : List Byte) (h : payload.length ≤ fuel)
    (h' : payload.length ≤ fuel') : walkFrom fuel payload = walkFrom fuel' payload := by
  induction fuel generalizing fuel' payload with
  | zero =>
    obtain rfl : payload = [] := List.length_eq_zero_iff.mp (Nat.le_zero.mp h)
    cases fuel' <;> rfl
  | succ fuel ih =>
    match payload, fuel', h' with
    | [], 0, _ | [], _ + 1, _ | [_], _ + 1, _ => rfl
    | kind :: length :: rest, fuel' + 1, h' =>
      have hdrop : (rest.drop (length.toNat - 2)).length ≤ rest.length := by rw [List.length_drop]; omega
      rw [List.length_cons, List.length_cons] at h h'
      rw [walkFrom, walkFrom, ih fuel' _ (by omega) (by omega)]

theorem walk_of_short {payload : List Byte} (h : payload.length < 2) : walk payload = [] := by
  match payload, h with
  | [], _ | [_], _ => rfl

/-- One step of the walk. -/
theorem walk_cons (kind length : Byte) (rest : List Byte) : walk (kind :: length :: rest) =
    if length.toNat < 2 ∨ (kind :: length :: rest).length < length.toNat then []
    else (readRecord kind (rest.take (length.toNat - 2))).toList ++ walk ((kind :: length :: rest).drop length.toNat) := by
  rw [walk, List.length_cons, List.length_cons, walkFrom]
  by_cases hstop : length.toNat < 2 ∨ rest.length < length.toNat - 2
  · rw [if_pos hstop, if_pos (by omega)]
  · rw [if_neg hstop, if_neg (by omega)]
    obtain ⟨n, hn⟩ : ∃ n, length.toNat = n + 2 := ⟨length.toNat - 2, by omega⟩
    rw [hn, Nat.add_sub_cancel, List.drop_succ_cons, List.drop_succ_cons, walk,
      walkFrom_eq _ (rest.drop n).length (rest.drop n) (by rw [List.length_drop]; omega) (Nat.le_refl _)]

/-- A usable record at the head of a payload is read, and the walk goes on behind it. -/
theorem walk_of_record {kind length : Byte} {body : List Byte} {r : Record} (hlen : length.toNat = body.length + 2)
    (hread : readRecord kind body = some r) (rest : List Byte) :
    walk (kind :: length :: (body ++ rest)) = r :: walk rest := by
  rw [walk_cons, if_neg, hlen, Nat.add_sub_cancel, List.take_left, hread, List.drop_succ_cons, List.drop_succ_cons,
    List.drop_left]
  · rfl
  · rw [List.length_cons, List.length_cons, List.length_append]
    omega

/-! ## The records that a station sends -/

theorem flagField_flagHalf (fs : FlagSet) : flagField (flagHalf fs) = fs := by
  refine BitVec.eq_of_toNat_eq ?_
  rw [flagField, BitVec.truncate_eq_setWidth, BitVec.toNat_setWidth, flagHalf, zeroExtend_toNat _ (by decide)]
  exact Nat.mod_eq_of_lt fs.isLt

theorem stationByte_toNat (station : Station) : (stationByte station).toNat = station.toNat :=
  zeroExtend_toNat _ (by decide)

/-- The 10 bytes, one by one. -/
theorem encodeNote_eq (x : NoteRecord) : encodeNote x =
    [2, 10, (flagHalf x.newlyRaised).extractLsb' 8 8, (flagHalf x.newlyRaised).extractLsb' 0 8,
     (flagHalf x.allSet).extractLsb' 8 8, (flagHalf x.allSet).extractLsb' 0 8, x.firstRaise.extractLsb' 24 8,
     x.firstRaise.extractLsb' 16 8, x.firstRaise.extractLsb' 8 8, x.firstRaise.extractLsb' 0 8] := by
  simp only [encodeNote, halfBytes, wordBytes, List.cons_append, List.nil_append]

theorem walk_encodeNote (x : NoteRecord) (rest : List Byte) :
    walk (encodeNote x ++ rest) = Record.note x :: walk rest := by
  rw [encodeNote_eq]
  refine walk_of_record rfl ?_ rest
  simp only [readRecord, BitVec.reduceToNat, half_of_bytes, word_of_bytes, flagField_flagHalf]

/-- The 11 bytes, one by one. -/
theorem encodeRequest_eq (r : RequestRecord) : r.encode =
    [3, 11, r.kind.code, r.origin, r.mask.extractLsb' 24 8, r.mask.extractLsb' 16 8, r.mask.extractLsb' 8 8,
     r.mask.extractLsb' 0 8, r.sender, r.count.extractLsb' 8 8, r.count.extractLsb' 0 8] := by
  simp only [RequestRecord.encode, halfBytes, wordBytes, List.cons_append, List.nil_append]

theorem walk_encodeRequest (r : PendingRequest) (rest : List Byte) :
    walk (r.toRecord.encode ++ rest) = Record.request r.toRecord :: walk rest := by
  have hsender : ¬(r.kind.isTest = true ∧ 31 < (stationByte r.sender).toNat) := by
    rw [stationByte_toNat]
    have := r.sender.isLt
    omega
  rw [encodeRequest_eq]
  refine walk_of_record rfl ?_ rest
  simp only [readRecord, BitVec.reduceToNat, PendingRequest.toRecord, half_of_bytes, word_of_bytes,
    RequestKind.ofCode_eq_some.mpr rfl, if_neg hsender]

theorem walk_encodeStatus (x : StatusRecord) (rest : List Byte) :
    walk (x.encode ++ rest) = Record.status :: walk rest := by
  rw [encode_eq]
  exact walk_of_record rfl rfl rest

theorem walk_encodeTag (x : TagRecord) (h : x.values.length = 1 ∨ x.values.length = 2 ∨ x.values.length = 4)
    (rest : List Byte) : walk (encodeTag x ++ rest) = Record.tag x :: walk rest := by
  obtain ⟨tag, spacing, newest, values⟩ := x
  change values.length = 1 ∨ values.length = 2 ∨ values.length = 4 at h
  have hcount : (BitVec.ofNat 8 values.length).toNat = values.length := by
    rw [BitVec.toNat_ofNat]
    omega
  have hread : readRecord 1 (tag :: BitVec.ofNat 8 values.length :: spacing :: (wordBytes newest ++ values.flatMap halfBytes)) =
      some (.tag { tag := tag, spacing := spacing, newest := newest, values := values }) := by
    simp only [readRecord, BitVec.reduceToNat, wordBytes, List.cons_append, List.nil_append, halves_flatMap, hcount, word_of_bytes]
    exact if_pos ⟨trivial, h⟩
  have hlen : (BitVec.ofNat 8 (9 + 2 * values.length)).toNat =
      (tag :: BitVec.ofNat 8 values.length :: spacing :: (wordBytes newest ++ values.flatMap halfBytes)).length + 2 := by
    simp only [BitVec.toNat_ofNat, wordBytes, List.length_cons, List.length_append, List.length_nil, length_flatMap_halfBytes]
    omega
  exact walk_of_record hlen hread rest

theorem walk_requests (l : List PendingRequest) (rest : List Byte) :
    walk (l.flatMap (fun r => r.toRecord.encode) ++ rest) = l.map (fun r => Record.request r.toRecord) ++ walk rest := by
  induction l with
  | nil => rfl
  | cons r l ih => rw [List.flatMap_cons, List.append_assoc, walk_encodeRequest, ih, List.map_cons, List.cons_append]

theorem walk_tags (l : List TagRecord)
    (h : ∀ r ∈ l, r.values.length = 1 ∨ r.values.length = 2 ∨ r.values.length = 4) :
    walk (l.flatMap encodeTag) = l.map Record.tag := by
  induction l with
  | nil => rfl
  | cons x l ih =>
    rw [List.flatMap_cons, walk_encodeTag x (h x List.mem_cons_self), ih fun r hr => h r (List.mem_cons_of_mem x hr), List.map_cons]

theorem walk_note (n : Option NoteRecord) (rest : List Byte) :
    walk ((n.map encodeNote).getD [] ++ rest) = (n.map Record.note).toList ++ walk rest := by
  cases n with
  | none => rfl
  | some x => exact walk_encodeNote x rest

theorem walk_status (x : Option StatusRecord) (rest : List Byte) :
    walk ((x.map StatusRecord.encode).getD [] ++ rest) = (x.map fun _ => Record.status).toList ++ walk rest := by
  cases x with
  | none => rfl
  | some x => exact walk_encodeStatus x rest

/-- The payload of a sent DATA frame is read back, item after item. -/
theorem walk_payload (f : FrameCopy) (htest : f.test = none)
    (h : ∀ r ∈ f.tags, r.values.length = 1 ∨ r.values.length = 2 ∨ r.values.length = 4) :
    walk f.payload = (f.note.map Record.note).toList ++ f.requests.map (fun r => Record.request r.toRecord) ++
      (f.status.map fun _ => Record.status).toList ++ f.tags.map Record.tag := by
  rw [FrameCopy.payload, htest]
  simp only [List.append_assoc, walk_note, walk_requests, walk_status, walk_tags f.tags h]

/-! ## The test block -/

theorem readTestBlock_isSome (payload : List Byte) :
    (readTestBlock payload).isSome = decide (payload.length = 37) := by
  fun_cases readTestBlock payload with
  | case1 i1 i0 c1 c0 last pattern h => simp [h]
  | case2 i1 i0 c1 c0 last pattern h => simpa using h
  | case3 _ hshort =>
    refine (decide_eq_false fun hlen => ?_).symm
    obtain ⟨i1, i0, c1, c0, last, p0, p1, rest, rfl⟩ := seven_of_length (l := payload) (by omega)
    exact hshort i1 i0 c1 c0 last _ rfl

theorem bne_zero_eq_decide (x : Byte) : (x != 0) = decide (x ≠ 0) := by
  rw [Bool.eq_iff_iff, bne_iff_ne, decide_eq_true_iff]

theorem readTestBlock_fields (payload : List Byte) (b : TestBlock) (h : readTestBlock payload = some b) :
    b.index = imageHalf payload 0 ∧ b.count = imageHalf payload 2 ∧ b.last = decide (imageByte payload 4 ≠ 0) ∧
      b.pattern = payload.drop 5 := by
  revert h
  fun_cases readTestBlock payload with
  | case1 i1 i0 c1 c0 last pattern hlen =>
    intro h
    obtain rfl := Option.some.inj h
    exact ⟨rfl, rfl, bne_zero_eq_decide last, rfl⟩
  | case2 | case3 => nofun

theorem readTestBlock_encodeTest (b : TestBlock) (h : b.pattern.length = 32) : readTestBlock (encodeTest b) = some b := by
  obtain ⟨index, count, last, pattern⟩ := b
  have hlast : ((if last then 1 else 0 : Byte) != 0) = last := by cases last <;> rfl
  simp only [encodeTest, halfBytes, List.cons_append, List.nil_append, readTestBlock, half_of_bytes, hlast]
  exact if_pos h

/-- Settles O50: one step of the walk, one record by its kind, and each sent record read back. -/
theorem payloadIsWalkedByItsBytes : Obligations.PayloadIsWalkedByItsBytes := by
  refine ⟨fun payload => ⟨walk_of_short, ?_⟩, fun b i => ⟨imageByte_eq b i, imageHalf_toNat b i, imageWord_toNat b i⟩,
    fun kind length body => ⟨readRecord_isSome_iff kind length body, readRecord_fields kind length body⟩, fun f => rfl,
    fun payload => ⟨readTestBlock_isSome payload, readTestBlock_fields payload⟩, walk_payload, fun b h =>
    ⟨by rw [length_encodeTest, h], readTestBlock_encodeTest b h⟩⟩
  rintro kind length rest rfl
  exact walk_cons kind length rest

end Sys2Proof.Machine
